-- ==== Sys2Proof/Word.lean ====
section
/-! DEFINITION. The widths the manual names: a byte on a link, a 32-bit frame sequence number, and the index types of
the numbered collections. -/

namespace Sys2Proof

/-- A byte of a link frame, of the image or of pixel data (R190). -/
abbrev Byte := BitVec 8

/-- A frame sequence number, 32 bits, wrapping (0.5, R21); airing ids have the same width (R149). -/
abbrev Seq := BitVec 32

/-- CL0 to CL3 (R1). -/
abbrev Link := Fin 4

/-- Z0 to Z15 (R32). -/
abbrev ZoneId := Fin 16

/-- Tile-chain outputs 0 to 47 (R18). -/
abbrev ChainId := Fin 48

/-- Power feeds 0 to 3 (R18). -/
abbrev FeedId := Fin 4

/-- Sense channels 0 to 7: 0 to 3 currents, 4 to 7 voltages (R170). -/
abbrev ChannelId := Fin 8

/-- Contracts C0 to C63 (R140). -/
abbrev ContractId := Fin 64

/-- Score counters S0 to S15 (R100). -/
abbrev CounterId := Fin 16

/-- Clocks: GAME 0, SHOT 1, AUX 2 (R84). -/
abbrev ClockId := Fin 3

end Sys2Proof
end

