-- ==== Sys2Proof/Config.lean ====
section
/-! DEFINITION. What an image fixes for a run (section 12.1 and the rules its table names), the flash part that holds
it, and the free values: constants with no body, so that no proof can see what they are.

The values of an image are held as plain numbers, so that a value outside its range can be written down and the
checks of R185 can refuse it. -/

namespace Sys2Proof

/-- A link's role (R9). -/
inductive Role | timing | replay | sponsor | message | observer
deriving DecidableEq, Repr, Inhabited

/-- A link's rights (R1, R9). -/
structure Rights where
  restart : Bool
  power : Bool
  config : Bool
deriving DecidableEq, Repr, Inhabited

/-- The ten notice kinds (1.8). -/
inductive NoticeKind
  | clockEvent | claimChange | cueState | msgState | airingClosed
  | makegoodDropped | triggerLost | feedState | chainState | assetState
deriving DecidableEq, Repr, Inhabited

/-- A link parameter record (R1). -/
structure LinkParams where
  baud : Nat
  role : Role
  rights : Rights
  /-- ms -/
  keepalive : Nat
  /-- whole seconds -/
  holdOver : Nat
  protBase : Nat
  protLimit : Nat
  subs : List NoticeKind
deriving DecidableEq, Repr, Inhabited

/-- A tile record (R18): the tile's place on the grid, its chain, its position there and its feed. -/
structure TileRec where
  col : Nat
  row : Nat
  chain : Nat
  position : Nat
  feed : Nat
deriving DecidableEq, Repr, Inhabited

/-- Section 1: geometry and tile map (R18, R20). -/
structure Geometry where
  width : Nat
  height : Nat
  frameRate : Nat
  tiles : List TileRec
deriving DecidableEq, Repr, Inhabited

/-- LOW or HIGH range of a current channel (R170). -/
inductive SenseRange | low | high
deriving DecidableEq, Repr, Inhabited

/-- Calibration and thresholds of a current channel in one range (R170). -/
structure RangeSet where
  cal : Nat
  low : Nat
  high : Nat
  trip : Nat
deriving DecidableEq, Repr, Inhabited

/-- A current channel's settings (R170). -/
structure CurrentCfg where
  enabled : Bool
  lowSet : RangeSet
  highSet : RangeSet
  initial : SenseRange
deriving DecidableEq, Repr, Inhabited

/-- A voltage channel's settings (R170). -/
structure VoltageCfg where
  enabled : Bool
  cal : Nat
  tripUnder : Nat
  sag : Nat
  recover : Nat
deriving DecidableEq, Repr, Inhabited

/-- Section 2: the feed and channel table (R170, R172). -/
structure FeedTable where
  currents : Vector CurrentCfg 4
  voltages : Vector VoltageCfg 4
  budgets : Vector Nat 4
deriving DecidableEq, Repr, Inhabited

/-- Governor settings of one feed (R172). -/
structure Governor where
  dMin : Nat
  step : Nat
  nStress : Nat
  nRelief : Nat
deriving DecidableEq, Repr, Inhabited

/-- Section 3: governor and monitor settings (R172, R174). -/
structure GovernorTable where
  feeds : Vector Governor 4
  settle : Nat
  sample : Nat
  average : Nat
deriving DecidableEq, Repr, Inhabited

/-- Section 4: the link table (R1, R105). -/
structure LinkTable where
  links : Vector LinkParams 4
  streamOwner : Option Nat
  preroll : Nat
  freezeLimit : Nat
deriving DecidableEq, Repr, Inhabited

/-- Zone classes (R32). -/
inductive ZoneClass | main | sponsor | message | clock | score | emergency
deriving DecidableEq, Repr, Inhabited

/-- Section 5: the layers of the five configurable classes (R35). -/
structure ClassMap where
  main : Nat
  sponsor : Nat
  message : Nat
  clock : Nat
  score : Nat
deriving DecidableEq, Repr, Inhabited

/-- The configured fields of a zone record (R32); the mirror role is read from the mirror groups. -/
structure ZoneCfg where
  cls : ZoneClass
  col : Nat
  row : Nat
  width : Nat
  height : Nat
  gap : Nat
  fallback : Option Nat
  level : Nat
  load : Nat
  clockSource : Nat
  counters : List Nat
  alert : Bool
deriving DecidableEq, Repr, Inhabited

/-- A mirror group (R49). -/
structure MirrorGroup where
  leader : Nat
  followers : List Nat
deriving DecidableEq, Repr, Inhabited

/-- Counting direction of a clock (R84). -/
inductive Direction | down | up
deriving DecidableEq, Repr, Inhabited

/-- Clock settings of one clock (R84); `linked` is the source LINKED, otherwise TICK. -/
structure ClockCfg where
  dir : Direction
  limit : Nat
  linked : Bool
  warning : Nat
  horn : Bool
  reset : Nat
deriving DecidableEq, Repr, Inhabited

/-- Section 8: clock settings (R84). -/
structure ClockTable where
  clocks : Vector ClockCfg 3
  stopFilter : Nat
  period : Option Nat
deriving DecidableEq, Repr, Inhabited

/-- Section 9: alarm asset and alarm filter time (R134). -/
structure AlarmCfg where
  asset : Nat
  filter : Nat
deriving DecidableEq, Repr, Inhabited

/-- An asset's shape (R69). -/
structure Shape where
  width : Nat
  height : Nat
  frames : Nat
  interval : Nat
deriving DecidableEq, Repr, Inhabited

/-- One resident asset of section 10 (R81). -/
structure ResidentCfg where
  id : Nat
  shape : Shape
  data : List Byte
deriving DecidableEq, Repr, Inhabited

/-- The values an image's ten sections hold (12.1). `undecodable` lists the kinds (1 to 10) of sections in which an
enumerated value is none of its choices: such a section fails check 6 of R185. -/
structure Image where
  geometry : Geometry
  feedTable : FeedTable
  governor : GovernorTable
  linkTable : LinkTable
  classMap : ClassMap
  zones : Vector ZoneCfg 16
  groups : Vector (Option MirrorGroup) 4
  clocks : ClockTable
  alarm : AlarmCfg
  residents : List ResidentCfg
  undecodable : List Nat
deriving DecidableEq, Repr, Inhabited

/-- The image region of the serial flash (R185, R188): it does not answer, or it holds bytes, or it was left half
programmed. -/
inductive Flash
  | silent
  | holds (bytes : List Byte)
  | incomplete
deriving DecidableEq, Repr, Inhabited

/-- A part of the section layout, which the manual does not give (12.1): for a section kind and the bytes of a section,
the values they spell. Of the values only those of that kind's section are read (log entry 8). -/
abbrev SectionLayout := List (Nat × List Byte × Image)

namespace Config

/-- The values the bytes of a section of a kind spell. The manual gives no byte layout of the sections (12.1, 13.2), so
this is a free function of the kind and the section's bytes; of the values only those of that kind's section are read
(log entry 8). -/
opaque sectionValues : Nat → List Byte → Image

/-- The Kolinde family code of the HELLO identity (R5); the manual gives no value. -/
opaque familyCode : Nat

/-- The silicon revision, 0 to 255 (R5). -/
opaque siliconRevision : BitVec 8

/-- The part's 64-bit unique number (R5). -/
opaque uniqueNumber : BitVec 64

/-- How many spots a ROTATION_STATUS reply can hold after its other parts (R157): the reply's layout is not given, so
this is a free function of the numbers of make-good entries, insert entries, rotation zone records and airings. -/
opaque spotsThatFit : Nat → Nat → Nat → Nat → Nat

/-- The start frame of the content zone `z` shows after a rebuild of the zone table (R52 gives none): free at each
rebuild (first argument) and zone. -/
opaque rebuiltStart : Nat → Nat → BitVec 32

/-- The colour of the test pattern's border, by sub-pixel (red, green, blue); R27 gives none (log entry 14). -/
opaque testBorder : Nat → BitVec 8

/-- The colour of the test pattern's numerals, by sub-pixel; R27 gives none (log entry 14). -/
opaque testInk : Nat → BitVec 8

/-- The level of the test pattern's feed colour; R27 bounds it by 64 (log entry 14). -/
opaque testLevel : BitVec 8

/-- Whether the pixel at column x, line y lies on the two numerals of a chain and a position; R27 gives no shapes
(log entry 14). -/
opaque testNumeral : (chain position x y : Nat) → Bool

/-- The load figure of a clip frame without sub-pixels (R108 divides by their number). -/
opaque loadOfNoPixels : BitVec 8

/-- Whether a half-programmed image region fails CONFIG_READ with cause CRC (otherwise NO_IMAGE), R188: free at each
reading. -/
opaque incompleteFailsCrc : Nat → Bool

end Config

end Sys2Proof
end

