-- ==== Sys2Proof/Syntax.lean ====
section
/-! DEFINITION. The commands of the block: one constructor per row of spec/opcode_table.json, in the table's order,
with the operands the outside gives the event. -/

namespace Sys2Proof

/-- How a cold start comes about (R186): the supply comes up, with the flash part found on the SPI port and the part of
the section layout that is known (log entry 8), or the reset line is held low for a number of microseconds. -/
inductive ColdCause
  | powerOn (flash : Flash) (layout : SectionLayout)
  | resetLine (lowMicroseconds : Nat)
deriving DecidableEq, Repr

/-- The order in which ZM, CQS and AST take "link n ended" (R8: they act on it independently). -/
inductive LinkEndOrder
  | zmCqsAst | zmAstCqs | cqsZmAst | cqsAstZm | astZmCqs | astCqsZm
deriving DecidableEq, Repr

/-- Which reader takes a composition report first (R65, R150). -/
inductive ReportOrder | rotFirst | mseFirst
deriving DecidableEq, Repr

/-- What a millisecond tick samples, and the order the manual leaves open: the stop line and the alarm line (true is
asserted), whether MSE takes the tick before CSU, and whether MSE counts expiries before it samples the line. -/
structure TickInput where
  stopLine : Bool
  alarmLine : Bool
  mseFirst : Bool
  expiryFirst : Bool
deriving DecidableEq, Repr

/-- A clip frame as it arrives at the port (R108): the header and the pixel data. -/
structure ClipFrame where
  clip : Nat
  frame : Nat
  width : Nat
  height : Nat
  data : List Byte
deriving DecidableEq, Repr

/-- How flash programming ends (R188). -/
inductive ProgramResult | programmed | verifyFailed
deriving DecidableEq, Repr

/-- The commands. A request row names the link whose handed-over request its owner block executes (R12). A return word,
a tag and a count, comes with whether its chain's first block of the scanning frame has been sent (R23, log entry 18). -/
inductive Instr
  | coldStart (cause : ColdCause)
  | powerUpExit
  | configReadComplete
  | residentLoadComplete
  | badLengthFrame (link : Link) (bytes : List Byte)
  | frameReceive (link : Link) (bytes : List Byte)
  | hello (link : Link) (tag : Byte) (payload : List Byte)
  | keepaliveExpiry (link : Link) (order : LinkEndOrder)
  | holdOverExpiry (link : Link) (order : LinkEndOrder)
  | requestStart (link : Link)
  | replyEntersQueue (link : Link)
  | transmitFrameSent (link : Link)
  | linkStatus (link : Link)
  | frameStart
  | returnWord (chain : ChainId) (sent : Bool) (word : Byte × Nat)
  | scanCompletion
  | chainFault (chain : ChainId)
  | chainRecover (chain : ChainId)
  | setDark (link : Link)
  | setLit (link : Link)
  | testFrame (link : Link)
  | adoptionPoint
  | gapEnd (zone : ZoneId)
  | clipFrameQuery (zone : ZoneId)
  | freezeLimitAbort (zone : ZoneId)
  | clipTakenReport (zone : ZoneId)
  | frameRepeatEnd (zone : ZoneId)
  | cueDone (zone : ZoneId)
  | planAllocation
  | compositionEnd (order : ReportOrder)
  | airingComplete (zone : ZoneId) (order : ReportOrder)
  | messageShowingEnd (order : ReportOrder)
  | msTick (input : TickInput)
  | clockExpiry (clock : ClockId) (input : TickInput)
  | hornEnd (input : TickInput)
  | stopLineAccept (input : TickInput)
  | alarmLineAccept (input : TickInput)
  | messageExpiry (message : Nat) (source : Link) (input : TickInput)
  | setClock (link : Link)
  | startClock (link : Link)
  | stopClock (link : Link)
  | adjustClock (link : Link)
  | resetShot (link : Link)
  | applyCapture (link : Link)
  | horn (link : Link)
  | setScore (link : Link)
  | addScore (link : Link)
  | showZone (link : Link)
  | hideZone (link : Link)
  | takeover (link : Link)
  | releaseTakeover (link : Link)
  | clockStatus (link : Link)
  | zoneStatus (link : Link)
  | planStatus (link : Link)
  | assetBegin (link : Link)
  | assetData (link : Link)
  | assetEnd (link : Link)
  | assetAbort (link : Link)
  | assetDelete (link : Link)
  | assetStatus (link : Link)
  | clipFrameArrival (frame : ClipFrame)
  | queueCue (link : Link)
  | play (link : Link)
  | stopCue (link : Link)
  | flush (link : Link)
  | cueStatus (link : Link)
  | postMessage (link : Link)
  | postEvacuate (link : Link)
  | cancelMessage (link : Link)
  | clearEvacuate (link : Link)
  | messageStatus (link : Link)
  | define (link : Link)
  | setTarget (link : Link)
  | setHoldback (link : Link)
  | close (link : Link)
  | reopen (link : Link)
  | readContract (link : Link)
  | addSpot (link : Link)
  | removeSpot (link : Link)
  | setTrigger (link : Link)
  | clearTrigger (link : Link)
  | rotationStatus (link : Link)
  | readLog (link : Link)
  | channelConversionEnd (samples : List Nat)
  | monitorScanComplete
  | derateStep (feed : FeedId)
  | setRange (link : Link)
  | releaseFeed (link : Link)
  | monitorStatus (link : Link)
  | writeImageBegin (link : Link)
  | writeImageData (link : Link)
  | writeImageEnd (link : Link)
  | flashProgrammingComplete (result : ProgramResult)
  | writeIdleTimeout (input : TickInput)
  | restart (link : Link)
  | warmRestartBegin
deriving DecidableEq, Repr

end Sys2Proof
end

