-- ==== Sys2Proof/Machine/State.lean ====
section
/-! DEFINITION. The state of the part, block by block (0.3), as plain data; the reasons a step could stop; and the
state right after reset. Each type cites the rule that names what it holds. -/

namespace Sys2Proof.Machine

/-! ## Configuration Loader (section 12) -/

/-- Start-up states (R186). -/
inductive StartState | powerUp | configRead | residentLoad | run | safe
deriving DecidableEq, Repr

/-- Causes of a fault record (R185, R186). -/
inductive FaultCause | noImage | version | length | crc | sectionTable | check | resident
deriving DecidableEq, Repr

/-- The fault record (section 12): the cause and, where one applies, the section kind (1 to 10) or the failing id. -/
structure FaultRecord where
  cause : FaultCause
  detail : Option Nat
deriving DecidableEq, Repr

/-- The write staging (R188). The bytes received are the length of `data`. -/
inductive Staging
  | idle
  | receiving (writer : Link) (length : Nat) (data : List Byte) (idleTime : Nat)
  | programming (writer : Link) (data : List Byte)
deriving DecidableEq, Repr

/-- State of CFL (section 12), with the image last read that passed every check, the flash part's image region, whether
the passage to RUN under way is a warm restart, and the known part of the free section layout (the model's own, log
entry 8). -/
structure Cfl where
  startup : StartState
  fault : Option FaultRecord
  residentsLoaded : Bool
  staging : Staging
  restarting : Bool
  image : Image
  flash : Flash
  layout : SectionLayout
deriving DecidableEq, Repr

/-! ## Content (section 3.2) -/

/-- An airing named by content (R34). -/
structure AiringRef where
  id : Seq
  contract : ContractId
deriving DecidableEq, Repr

/-- A content descriptor without its start frame (R34). The fallback mark is the Bool of `blank` and `asset`. -/
inductive Content
  | none
  | blank (fallback : Bool)
  | asset (id : Nat) (level : Nat) (airing : Option AiringRef) (fallback : Bool)
  | clip (cue : Nat) (level : Nat)
  | clock
  | score
  | message (asset : Nat) (message : Nat) (source : Link) (level : Nat)
  | alert (asset : Nat) (message : Nat) (source : Link) (level : Nat)
  | evac (asset : Nat)
  | gap
deriving DecidableEq, Repr

/-- Content kinds, as ZONE_STATUS reports them (R34, R51). -/
inductive ContentKind | none | blank | asset | clip | clock | score | message | alert | evac | gap
deriving DecidableEq, Repr

/-- Holder of a claim entry (R41). -/
inductive Holder
  | rotation
  | link (link : Link)
  | messageEngine
deriving DecidableEq, Repr

/-- A MAIN zone's claim stack (R41): level 0 always held by ROT, levels 1 and 2 by a link, level 3 by MSE. -/
structure ClaimStack where
  rotation : Content
  replay : Option (Link × Content)
  takeover : Option (Link × Content)
  alert : Option Content
deriving DecidableEq, Repr

/-- The running fields of a zone record (R32); `recorded` is the flag value SHOW and HIDE leave for the next adoption
point (R40). -/
structure ZoneRun where
  shown : Bool
  recorded : Bool
  current : Content
  start : Seq
  pending : Option Content
  gapLeft : Nat
  stack : ClaimStack
deriving DecidableEq, Repr

/-! ## Asset Store (section 5) -/

/-- The state of an asset record with the fields held in it (R69). Bytes received are the length of `data`. -/
inductive AssetBody
  | empty
  | loading (shape : Shape) (link : Link) (data : List Byte) (sum : Nat)
  | ready (shape : Shape) (data : List Byte) (load : Nat)
deriving DecidableEq, Repr

/-- An asset record (R69). -/
structure AssetRec where
  body : AssetBody
  refs : Nat
deriving DecidableEq, Repr

/-- State of AST: the directory, listing the records that are not EMPTY with count 0 by rising id, and the free block
count (R69, R70). -/
structure Ast where
  directory : List (Nat × AssetRec)
  freeBlocks : Nat
deriving DecidableEq, Repr

/-! ## Clock and Score Unit (section 6) -/

/-- Clock states (6.2). -/
inductive ClockState | set | running | stopped | expired
deriving DecidableEq, Repr

/-- A clock record (R84); GAME's capture value stands in `Csu`. -/
structure ClockRec where
  value : Nat
  dir : Direction
  limit : Nat
  linked : Bool
  state : ClockState
  warning : Nat
  armed : Bool
  horn : Bool
  reset : Nat
deriving DecidableEq, Repr

/-- A character of a display string (R60). -/
inductive Glyph | digit (d : Nat) | colon | stop | space
deriving DecidableEq, Repr

/-- A display string (R98). -/
abbrev DisplayString := List Glyph

/-- State of CSU (R84, R94, R95, R100): a horn time of 0 is idle. -/
structure Csu where
  clocks : Vector ClockRec 3
  capture : Option Nat
  score : Vector Nat 16
  period : Option CounterId
  hornTime : Nat
  hornLine : Bool
  stopFilter : Nat
  stopLevel : Bool
  stopRun : Nat
deriving DecidableEq, Repr

/-! ## Cue Sequencer (section 7) -/

/-- Cue states (R110). -/
inductive CueState | queued | preroll | playing | frozen | suspended | done | aborted
deriving DecidableEq, Repr

/-- Causes of ABORTED (R116). -/
inductive AbortCause | freeze | stop | flush | linkEnd
deriving DecidableEq, Repr

/-- A cue record (R110). -/
structure Cue where
  id : Nat
  clip : Nat
  first : Nat
  count : Nat
  rate : Nat
  loop : Bool
  zone : ZoneId
  level : Nat
  attribution : Option ContractId
  dropped : Bool
  state : CueState
  position : Nat
  repeats : Nat
  freeze : Nat
  expected : Nat
  firstListed : Option Seq
  lastListed : Option Seq
  listed : Nat
deriving DecidableEq, Repr

/-- A FULL slot (R106); `freeHeld` is a free held back by the read mark. -/
structure Slot where
  cue : Nat
  clip : Nat
  frame : Nat
  width : Nat
  height : Nat
  load : Nat
  data : List Byte
  readMark : Bool
  freeHeld : Bool
deriving DecidableEq, Repr

/-- A message on the port's return lane (R107). -/
inductive LaneMessage | grant | resetMark
deriving DecidableEq, Repr

/-- State of CQS (section 7): the FULL slots by rising slot number, the queue in order of arrival, and for each zone
the active cue of its lane (none is IDLE). `lane` lists what was sent on the return lane, oldest first. -/
structure Cqs where
  slots : List (Nat × Slot)
  queue : List Cue
  lanes : Vector (Option Nat) 16
  streamUp : Bool
  credits : Nat
  violation : Bool
  discards : Nat
  lane : List LaneMessage
deriving DecidableEq, Repr

/-! ## Message Engine (section 8) -/

/-- Message classes held in a record (R124). -/
inductive MessageClass | info | prompt | alert
deriving DecidableEq, Repr

/-- A message record (R124); its state is QUEUED in the queue and ON_AIR in the display record. -/
structure Message where
  id : Nat
  source : Link
  cls : MessageClass
  asset : Nat
  level : Nat
  duration : Nat
  repeats : Nat
  whenStopped : Bool
  expiry : Option Nat
  expired : Bool
deriving DecidableEq, Repr

/-- The message display record when it holds a message (R125). -/
structure Display where
  message : Message
  framesLeft : Nat
deriving DecidableEq, Repr

/-- The emergency state, with the link evacuation asset (8.6). -/
inductive Emergency
  | none
  | linkEvac (asset : Nat)
  | alarmEvac
  | alarmHeld
deriving DecidableEq, Repr

/-- State of MSE (section 8). -/
structure Mse where
  queue : List Message
  display : Option Display
  markMessage : Bool
  emergency : Emergency
  alarmFilter : Nat
  alarmLevel : Bool
  alarmRun : Nat
deriving DecidableEq, Repr

/-! ## Rotation Engine (section 9) -/

/-- Zone class of a spot (R144). -/
inductive SpotClass | sponsor | main
deriving DecidableEq, Repr

/-- Eligibility of a spot (R144). -/
inductive Eligibility | any | gameRunning | gameStopped
deriving DecidableEq, Repr

/-- A spot of the ring (R144). -/
structure Spot where
  id : Nat
  contract : ContractId
  asset : Nat
  cls : SpotClass
  duration : Nat
  elig : Eligibility
  level : Nat
deriving DecidableEq, Repr

/-- An entry of the make-good or insert queue (R146, R147). -/
structure QueueEntry where
  contract : ContractId
  asset : Nat
  cls : SpotClass
  duration : Nat
  level : Nat
deriving DecidableEq, Repr

/-- Trigger sources (R147). -/
inductive TriggerSource
  | scoreUp (counter : CounterId)
  | expiry (clock : ClockId)
  | gameStopped
  | warn (clock : ClockId)
deriving DecidableEq, Repr

/-- A trigger table entry (R147). -/
structure Trigger where
  source : TriggerSource
  spot : Nat
deriving DecidableEq, Repr

/-- Airing phases (R149). -/
inductive AiringPhase | pending | onAir | ending
deriving DecidableEq, Repr

/-- Where an airing came from (R149). -/
inductive AiringSource | ring | makegood | insert
deriving DecidableEq, Repr

/-- Cut causes (R155). -/
inductive CutCause | topLost | removed | emergency | cue
deriving DecidableEq, Repr

/-- An airing record (R149). -/
structure Airing where
  id : Seq
  phase : AiringPhase
  source : AiringSource
  spot : Option Nat
  contract : ContractId
  asset : Nat
  duration : Nat
  level : Nat
  frames : Nat
  first : Option Seq
  last : Option Seq
  cut : Option CutCause
deriving DecidableEq, Repr

/-- A rotation zone record (R149). -/
structure RotZone where
  cursor : Option Nat
  airing : Option Airing
  ending : List Airing
  hold : Bool
  fallbackShown : Bool
deriving DecidableEq, Repr

/-- State of ROT (section 9). -/
structure Rot where
  ring : List Spot
  makegood : List QueueEntry
  insert : List QueueEntry
  triggers : Vector (Option Trigger) 8
  zones : Vector (Option RotZone) 16
  nextAiring : Seq
deriving DecidableEq, Repr

/-! ## Exposure Unit (sections 9.1 and 10) -/

/-- Contract states (R140). -/
inductive ContractState | unused | opened | met | closed
deriving DecidableEq, Repr

/-- A contract record (R140); bit k of the exclusion set excludes Zk. -/
structure Contract where
  category : Nat
  target : Nat
  earned : Nat
  remainder : Nat
  holdback : Nat
  minLevel : Nat
  minVisible : Nat
  makegood : Nat
  exclusion : BitVec 16
  state : ContractState
  refs : Nat
deriving DecidableEq, Repr

/-- Key of an open record and source of a frame record entry (R159, R160). -/
inductive RecordKey
  | airing (id : Seq)
  | cue (id : Nat) (contract : ContractId)
deriving DecidableEq, Repr

/-- Sources of a log entry (R166). -/
inductive LogSource | ring | makegood | insert | cue
deriving DecidableEq, Repr

/-- Outcomes (R150, R165). -/
inductive Outcome | complete | cut | attribution
deriving DecidableEq, Repr

/-- A closing mark (R150, R162): for a cue, `frames` is the number of compositions listed and `area`, `duration`,
`asset` and `level` are 0. -/
structure Mark where
  key : RecordKey
  contract : ContractId
  zone : ZoneId
  area : Nat
  source : LogSource
  first : Seq
  last : Seq
  duration : Nat
  frames : Nat
  outcome : Outcome
  asset : Nat
  level : Nat
deriving DecidableEq, Repr

/-- An open record (R159); `holdsRef` is the reference a cue record takes at its mark (R162). -/
structure OpenRecord where
  key : RecordKey
  contract : ContractId
  delivered : Nat
  mark : Option Mark
  holdsRef : Bool
deriving DecidableEq, Repr

/-- An airing log entry (R166); `id` is the airing id or the cue id. -/
structure LogEntry where
  id : Nat
  contract : ContractId
  zone : ZoneId
  source : LogSource
  first : Seq
  last : Seq
  duration : Nat
  frames : Nat
  delivered : Nat
  nominal : Nat
  outcome : Outcome
  queued : Bool
  restart : Bool
deriving DecidableEq, Repr

/-- State of EXU (R140, R159): the occupied places of the open record table in order of opening, and the log oldest
first. -/
structure Exu where
  contracts : Vector Contract 64
  records : List OpenRecord
  creditedThrough : Option Seq
  log : List LogEntry
  logLost : Nat
deriving DecidableEq, Repr

/-! ## Feed Monitor and Level Allocator (section 11) -/

/-- The calibration and thresholds of a sense channel (R170). -/
inductive ChannelSetting
  | current (lowSet highSet : RangeSet)
  | voltage (cal tripUnder sag recover : Nat)
deriving DecidableEq, Repr

/-- A sense channel record (R170); the ranges are read for current channels only. -/
structure Channel where
  enabled : Bool
  selected : SenseRange
  effect : SenseRange
  setting : ChannelSetting
  last : Option Nat
deriving DecidableEq, Repr

/-- A feed record (R172); NORMAL and DERATED are told apart by the derate. -/
structure Feed where
  budget : Nat
  derate : Nat
  dMin : Nat
  step : Nat
  nStress : Nat
  nRelief : Nat
  stressRun : Nat
  reliefRun : Nat
  tripRun : Nat
  tripped : Bool
deriving DecidableEq, Repr

/-- Feed states (R172). -/
inductive FeedState | normal | derated | tripped
deriving DecidableEq, Repr

/-- A monitor scan in flight (R173, R174): the channels still to convert and the calibrated values held. -/
structure MonitorScan where
  todo : List ChannelId
  values : List (ChannelId × Nat)
deriving DecidableEq, Repr

/-- One feed of LVA's last result (R181). -/
structure LvaFeed where
  state : FeedState
  budget : Nat
  held : Nat
  free : Nat
  scale : Nat
deriving DecidableEq, Repr

/-- LVA's last result (R181). -/
structure LvaResult where
  num : Seq
  feeds : Vector LvaFeed 4
deriving DecidableEq, Repr

/-- State of FMN and LVA (section 11). -/
structure Fmn where
  channels : Vector Channel 8
  feeds : Vector Feed 4
  settle : Nat
  sample : Nat
  average : Nat
  scan : Option MonitorScan
  skipped : Nat
  lva : LvaResult
deriving DecidableEq, Repr

/-! ## Output Scan Unit (section 2) -/

/-- Standing mode (R26). -/
inductive Standing | lit | dark
deriving DecidableEq, Repr

/-- Scan mode of a frame (R22). -/
inductive ScanMode | lit | dark | test
deriving DecidableEq, Repr

/-- Chain states (2.4). -/
inductive ChainState | unused | ok | suspect | fault
deriving DecidableEq, Repr

/-- A chain health record (2.4); UNUSED has none and keeps both runs 0. -/
structure ChainRec where
  state : ChainState
  badRun : Nat
  goodRun : Nat
deriving DecidableEq, Repr

/-- The sub-pixels of one tile (R69); an absent tile of a picture is black. -/
abbrev Tile := List Byte

/-- An entry of a frame record (R64). -/
structure FrameEntry where
  zone : ZoneId
  key : RecordKey
  contract : ContractId
  area : Nat
  visible : Nat
  level : Nat
deriving DecidableEq, Repr

/-- A frame record (R64). -/
structure FrameRecord where
  num : Seq
  dark : Bool
  entries : List FrameEntry
deriving DecidableEq, Repr

/-- A composed frame awaiting scan: its tiles, row by row, and its record (R53). -/
structure BuiltFrame where
  picture : List Tile
  record : FrameRecord
deriving DecidableEq, Repr

/-- The frame being scanned (R20, R23): no number and no record for the black frame; the return words accepted; and
whether its scan completion, which closes every chain's return window, is still to come (log entry 18). -/
structure ScanFrame where
  num : Option Seq
  tag : Byte
  mode : ScanMode
  picture : List Tile
  record : Option FrameRecord
  returns : Vector (Option (Byte × Nat)) 48
  windowOpen : Bool
deriving DecidableEq, Repr

/-- State of OSU (section 2). -/
structure Osu where
  seq : Seq
  standing : Standing
  testPending : Bool
  chains : Vector ChainRec 48
  scanning : Option ScanFrame
  built : Option BuiltFrame
  feedLines : Vector Bool 4
deriving DecidableEq, Repr

/-! ## Compositor (section 4) -/

/-- How far the composition under way has come (R53): none; snapshot taken; content being advanced (step 3); mirror
copies made (step 4); tile data written (step 7). -/
inductive CompPhase | idle | begun | advancing | ready | planned
deriving DecidableEq, Repr

/-- CQS's answer to a clip query (R58, R113): the slot of a FRAME answer, the state reported (none is NONE), the
attribution reported, and the entered-PLAYING mark. -/
structure ClipAnswer where
  slot : Option Nat
  state : Option CueState
  attribution : Option ContractId
  entered : Bool
deriving DecidableEq, Repr

/-- A frame plan entry with its area and the level LVA returned (R62, R66). -/
structure PlanEntry where
  zone : ZoneId
  level : Nat
  load : Nat
  held : Bool
  visible : Vector Nat 4
  area : Nat
  applied : Nat
deriving DecidableEq, Repr

/-- The composition under way (R53 to R63); `before` is LVA's last result as it stood before this composition's plan was
allocated, for a composition that is abandoned (R181). -/
structure Composition where
  phase : CompPhase
  num : Seq
  chainOk : Vector Bool 48
  tripped : Vector Bool 4
  queries : List ZoneId
  answers : List (ZoneId × ClipAnswer)
  passes : List (ContractId × Nat)
  strings : List (ZoneId × DisplayString)
  plan : List PlanEntry
  picture : List Tile
  before : Option LvaResult
deriving DecidableEq, Repr

/-- A clip hold record's frame (R59). -/
structure ClipHold where
  clip : Nat
  frame : Nat
  width : Nat
  height : Nat
  load : Nat
  data : List Byte
deriving DecidableEq, Repr

/-- The last plan report (R66). -/
structure PlanReport where
  num : Seq
  entries : List PlanEntry
  budgets : Vector Nat 4
  scales : Vector Nat 4
deriving DecidableEq, Repr

/-- A taken report under way (R58, R114). -/
structure TakenReport where
  zone : ZoneId
  slot : Nat
  cue : Nat
deriving DecidableEq, Repr

/-- State of CMP (section 4). -/
structure Cmp where
  comp : Composition
  taken : List TakenReport
  holds : Vector (Option ClipHold) 16
  lastPlan : PlanReport
deriving DecidableEq, Repr

/-! ## Replies and notices (sections 1.6, 1.8 and 13) -/

/-- Status codes (R13). -/
inductive Status
  | ok | full | notUp | denied | form | range | state | held | inUse | noAsset | noSpace | unknown | configFault
deriving DecidableEq, Repr

/-- Link states (1.3). -/
inductive LinkMode | down | helloWait | up | lapsed
deriving DecidableEq, Repr

/-- What LINK_STATUS reports (R16), with the subscription set as the two bytes of R190. -/
structure LinkReport where
  link : Link
  mode : LinkMode
  params : LinkParams
  frameErrors : Nat
  requests : Nat
  notices : Nat
  overrun : Bool
  subscriptions : List Byte
deriving DecidableEq, Repr

/-- What MONITOR_STATUS reports of a sense channel (R182): the selected range and the range in effect for a current
channel only, and the calibration and the three thresholds in effect (low, high and trip, or trip-under, sag and
recover). -/
structure ChannelReport where
  enabled : Bool
  ranges : Option (SenseRange × SenseRange)
  calibration : Nat
  thresholds : Nat × Nat × Nat
  last : Option Nat
deriving DecidableEq, Repr

/-- What MONITOR_STATUS reports (R182). -/
structure MonitorReport where
  seq : Seq
  standing : Standing
  testPending : Bool
  chains : Vector ChainRec 48
  settle : Nat
  sample : Nat
  average : Nat
  scanInFlight : Bool
  skipped : Nat
  channels : Vector ChannelReport 8
  feeds : Vector Feed 4
  feedStates : List FeedState
  effectiveBudgets : List Nat
  lva : LvaResult
deriving DecidableEq, Repr

/-- What ZONE_STATUS reports (R51), with the requested level of the current content where its kind has one; the stack
lists levels 0 to 3 with holder and content kind, for a MAIN zone. -/
structure ZoneReport where
  cls : ZoneClass
  layer : Nat
  rectangle : Nat × Nat × Nat × Nat
  gap : Nat
  leaderOf : Option Nat
  followerOf : Option Nat
  shown : Bool
  current : Content
  level : Option Nat
  start : Seq
  pending : Option ContentKind
  gapLeft : Nat
  stack : List (Option (Holder × ContentKind))
  top : Option Nat
deriving DecidableEq, Repr

/-- What CLOCK_STATUS reports (R102). -/
structure ClockReport where
  clocks : Vector ClockRec 3
  strings : List DisplayString
  capture : Option Nat
  hornTime : Nat
  stopLevel : Bool
  stopFilter : Nat
  score : Vector Nat 16
  period : Option CounterId
deriving DecidableEq, Repr

/-- What CUE_STATUS reports (R122). -/
structure CueReport where
  streamUp : Bool
  owner : Option Nat
  preroll : Nat
  freezeLimit : Nat
  credits : Nat
  freeSlots : Nat
  fullSlots : Nat
  violation : Bool
  discards : Nat
  lanes : List (ZoneId × Option Nat)
  cues : List (Cue × Nat)
deriving DecidableEq, Repr

/-- What MESSAGE_STATUS reports (R137). -/
structure MessageReport where
  emergency : Emergency
  evacuation : Option Nat
  alarmAsset : Nat
  alarmLevel : Bool
  alarmFilter : Nat
  display : Option Display
  markMessage : Bool
  holdsAlert : Bool
  queue : List Message
  held : Nat
deriving DecidableEq, Repr

/-- What ROTATION_STATUS reports (R157). -/
structure RotationReport where
  spots : Nat
  startIndex : Nat
  carried : List Spot
  makegood : List QueueEntry
  insert : List QueueEntry
  triggers : Vector (Option Trigger) 8
  zones : List (ZoneId × RotZone)
  nextAiring : Seq
deriving DecidableEq, Repr

/-- What ASSET_STATUS reports (R80). -/
structure AssetReport where
  id : Nat
  loading : Bool
  ready : Bool
  shape : Option Shape
  total : Nat
  blocks : Nat
  link : Option Link
  received : Option Nat
  load : Option Nat
  refs : Nat
  freeBlocks : Nat
deriving DecidableEq, Repr

/-- The payload of a reply by its fields; READ_CONTRACT and READ_LOG in the bytes of R192. -/
inductive ReplyBody
  | empty
  | identity (family : Nat) (revision : BitVec 8) (unique : BitVec 64) (role : Role) (rights : Rights) (seq : Seq)
  | linkStatus (r : LinkReport)
  | monitorStatus (r : MonitorReport)
  | zoneStatus (r : ZoneReport)
  | planStatus (r : PlanReport)
  | clockStatus (r : ClockReport)
  | cueStatus (r : CueReport)
  | messageStatus (r : MessageReport)
  | rotationStatus (r : RotationReport)
  | assetStatus (r : AssetReport)
  | assetBegun (total blocks : Nat)
  | bytesReceived (n : Nat)
  | loadFigure (a : Nat)
  | clockValue (v : Nat)
  | clocksStarted (l : List ClockId)
  | clockValueState (v : Nat) (st : ClockState)
  | hornTaken (ms : Nat)
  | scoreValue (v : Nat)
  | top (isTop : Bool)
  | played (cue : Nat) (isTop : Bool)
  | count (n : Nat)
  | standing (m : Standing)
  | contractState (st : ContractState)
  | contractTerms (target holdback : Nat) (st : ContractState)
  | bytes (l : List Byte)
  | ranges (selected effect : SenseRange)
  | feed (st : FeedState) (derate : Nat)
  | startStatus (st : StartState) (fault : Option FaultRecord)
  | programmed (r : ProgramResult)
deriving DecidableEq, Repr

/-- Clock events told by CLOCK_EVENT (R92, R93, R96). -/
inductive ClockEvent
  | warn
  | expiry
  | capture (value : Nat)
deriving DecidableEq, Repr

/-- Causes of CLAIM_CHANGE (R44). -/
inductive ClaimCause | claim | release | linkEnd
deriving DecidableEq, Repr

/-- New states told by a message's MSG_STATE (R137), with the cause where one is given. -/
inductive MessageChange
  | onAir
  | queuedRepeat | queuedPreempted | queuedGameRunning | queuedEmergency
  | doneComplete | doneCancelled
  | expired
deriving DecidableEq, Repr

/-- Causes of an emergency notice (R137). -/
inductive EmergencyCause | post | alarmAsserted | alarmNegated | clear
deriving DecidableEq, Repr

/-- Causes of MAKEGOOD_DROPPED (R146). -/
inductive DropCause | full | noAsset
deriving DecidableEq, Repr

/-- Causes of FEED_STATE (R178). -/
inductive FeedCause | stress | relief | tripCurrent | tripVoltage | release
deriving DecidableEq, Repr

/-- Causes of ASSET_STATE (R80). -/
inductive AssetCause | loaded | failed | aborted | linkEnd | deleted
deriving DecidableEq, Repr

/-- Notices with their payload fields (sections 2, 3, 5 to 11). -/
inductive Notice
  | clockEvent (clock : ClockId) (event : ClockEvent) (value : Nat) (seq : Seq)
  | claimChange (zone : ZoneId) (cause : ClaimCause) (oldTop : Nat) (oldHolder : Holder) (newTop : Nat)
      (newHolder : Holder) (seq : Seq)
  | cueState (cue : Nat) (zone : ZoneId) (state : CueState) (cause : Option AbortCause) (position held : Nat)
      (attribution : Option ContractId) (dropped : Bool) (seq : Seq)
  | message (id : Nat) (source : Link) (cls : MessageClass) (change : MessageChange) (repeats : Nat) (seq : Seq)
  | emergency (state : Emergency) (asset : Option Nat) (cause : EmergencyCause) (seq : Seq)
  | airingClosed (id : Nat) (contract : ContractId) (zone : ZoneId) (source : LogSource) (outcome : Outcome)
      (delivered nominal : Nat) (queued : Bool) (seq : Seq)
  | makegoodDropped (contract : ContractId) (airing : Seq) (duration : Nat) (cause : DropCause) (seq : Seq)
  | triggerLost (entry : Nat) (source : TriggerSource) (spot : Nat) (seq : Seq)
  | feedState (feed : FeedId) (state : FeedState) (derate budget : Nat) (cause : FeedCause) (current voltage : Option Nat)
      (seq : Seq)
  | chainState (chain : ChainId) (state : ChainState) (frame : Seq)
  | assetState (id : Nat) (ready : Bool) (cause : AssetCause) (load : Option Nat) (freeBlocks : Nat)
deriving DecidableEq, Repr

/-! ## Link Controller (section 1) -/

/-- A REQUEST frame as the FIFO holds it (R11). -/
structure Request where
  tag : Byte
  code : Byte
  payload : List Byte
deriving DecidableEq, Repr

/-- A frame in a transmit queue (R14). -/
inductive TxFrame
  | reply (tag code : Byte) (status : Status) (body : ReplyBody)
  | notice (notice : Notice)
deriving DecidableEq, Repr

/-- The executing request of a link (R8, R12): none; one handed to its owner, `orphan` when its link has ended since;
or one whose reply waits for room in the transmit queue (R14). -/
inductive Executing
  | idle
  | running (request : Request) (orphan : Bool)
  | replyWaiting (frame : TxFrame)
deriving DecidableEq, Repr

/-- State of one control link (section 1). `rx` are received bytes not yet taken as a frame; `fifo` the requests not
yet started, oldest first; a running timer holds the time it was loaded with. -/
structure LinkState where
  mode : LinkMode
  keepalive : Option Nat
  holdOver : Option Nat
  rx : List Byte
  frameErrors : Nat
  fifo : List Request
  executing : Executing
  tx : List TxFrame
  overrun : Bool
deriving DecidableEq, Repr

/-! ## The part -/

/-- The state of the part: one field per block, the counter the free values are applied to (the model's own), and the
queue of commands waiting, first in, first out. -/
structure State where
  cfl : Cfl
  links : Vector LinkState 4
  osu : Osu
  zones : Vector ZoneRun 16
  cmp : Cmp
  ast : Ast
  csu : Csu
  cqs : Cqs
  mse : Mse
  rot : Rot
  exu : Exu
  fmn : Fmn
  freeCount : Nat
  pending : List Instr
deriving DecidableEq, Repr

/-- Reasons the part could stop with a fault. There is none: what the manual calls a failure is a state of the part
(SAFE, chain FAULT, feed TRIPPED) or a status code, and the part goes on. Safe, and nothing raises it. -/
inductive Fault
deriving DecidableEq, Repr

/-- Reasons the model could give a command no meaning. -/
inductive Refusal
  /-- A row of the opcode table without a meaning; raised by `exec`'s arms only, and by none at present. Safe. -/
  | notModelled (mnemonic : String)
deriving DecidableEq, Repr

/-! ## Reset: POWER_UP of a cold start, every block at its cold-start values (R186) -/

/-- A link at a cold start (R17). -/
def LinkState.reset : LinkState :=
  { mode := .down, keepalive := none, holdOver := none, rx := [], frameErrors := 0, fifo := [], executing := .idle,
    tx := [], overrun := false }

/-- A zone record before the zone table is built (R52): no rule gives its fields then, and what it holds, in SAFE too, is
the model's choice (log entry 41). -/
def ZoneRun.reset : ZoneRun :=
  { shown := false, recorded := false, current := .none, start := 0, pending := none, gapLeft := 0,
    stack := { rotation := .blank true, replay := none, takeover := none, alert := none } }

/-- The image before any was read: every value 0, absent or the first of its choices. -/
def blankImage : Image :=
  { geometry := { width := 0, height := 0, frameRate := 0, tiles := [] }
    feedTable :=
      { currents := Vector.replicate 4
          { enabled := false, lowSet := ⟨0, 0, 0, 0⟩, highSet := ⟨0, 0, 0, 0⟩, initial := .low }
        voltages := Vector.replicate 4 { enabled := false, cal := 0, tripUnder := 0, sag := 0, recover := 0 }
        budgets := Vector.replicate 4 0 }
    governor :=
      { feeds := Vector.replicate 4 { dMin := 256, step := 1, nStress := 1, nRelief := 1 }
        settle := 0, sample := 0, average := 1 }
    linkTable :=
      { links := Vector.replicate 4
          { baud := 115200, role := .observer, rights := ⟨false, false, false⟩, keepalive := 1000, holdOver := 10,
            protBase := 1, protLimit := 0, subs := [] }
        streamOwner := none, preroll := 12, freezeLimit := 25 }
    classMap := { main := 0, sponsor := 0, message := 0, clock := 0, score := 0 }
    zones := Vector.replicate 16
      { cls := .emergency, col := 0, row := 0, width := 0, height := 0, gap := 0, fallback := none, level := 0,
        load := 0, clockSource := 0, counters := [], alert := false }
    groups := Vector.replicate 4 none
    clocks :=
      { clocks := Vector.replicate 3
          { dir := .down, limit := 5999999, linked := false, warning := 0, horn := false, reset := 0 }
        stopFilter := 0, period := none }
    alarm := { asset := 0, filter := 10 }
    residents := []
    undecodable := [] }

/-- A clock at a cold start, with the settings R103 gives a clock that holds no image values. -/
def ClockRec.initial : ClockRec :=
  { value := 0, dir := .down, limit := 5999999, linked := false, state := .set, warning := 0, armed := false,
    horn := false, reset := 0 }

/-- A contract never defined (R140). -/
def Contract.unused : Contract :=
  { category := 0, target := 0, earned := 0, remainder := 0, holdback := 0, minLevel := 0, minVisible := 0,
    makegood := 0, exclusion := 0, state := .unused, refs := 0 }

/-- A feed that holds no image values (R183). -/
def Feed.reset : Feed :=
  { budget := 0, derate := 256, dMin := 256, step := 1, nStress := 1, nRelief := 1, stressRun := 0, reliefRun := 0,
    tripRun := 0, tripped := false }

/-- A current channel that holds no image values (R183); calibrations and thresholds of 0 are the model's choice (log entry
41). -/
def Channel.resetCurrent : Channel :=
  { enabled := false, selected := .low, effect := .low, setting := .current ⟨0, 0, 0, 0⟩ ⟨0, 0, 0, 0⟩, last := none }

/-- A voltage channel that holds no image values (R183); calibration and thresholds of 0 are the model's choice (log entry
41). -/
def Channel.resetVoltage : Channel :=
  { enabled := false, selected := .low, effect := .low, setting := .voltage 0 0 0 0, last := none }

/-- No composition under way (R68). -/
def Composition.idle : Composition :=
  { phase := .idle, num := 0, chainOk := Vector.replicate 48 false, tripped := Vector.replicate 4 false, queries := [],
    answers := [], passes := [], strings := [], plan := [], picture := [], before := none }

/-- CMP at a cold start (R68). The last plan report of composition number 0 holds no entries; that it reports budgets 0
and scales 256 is the model's choice (log entry 54). -/
def Cmp.reset : Cmp :=
  { comp := Composition.idle, taken := [], holds := Vector.replicate 16 none,
    lastPlan := { num := 0, entries := [], budgets := Vector.replicate 4 0, scales := Vector.replicate 4 256 } }

/-- CQS at a cold start (R123). -/
def Cqs.reset : Cqs :=
  { slots := [], queue := [], lanes := Vector.replicate 16 none, streamUp := false, credits := 0, violation := false,
    discards := 0, lane := [] }

/-- FMN and LVA before an image is read (R183); LVA's last result then is the model's choice (log entry 62). -/
def Fmn.reset : Fmn :=
  { channels := #v[Channel.resetCurrent, Channel.resetCurrent, Channel.resetCurrent, Channel.resetCurrent,
      Channel.resetVoltage, Channel.resetVoltage, Channel.resetVoltage, Channel.resetVoltage]
    feeds := Vector.replicate 4 Feed.reset
    settle := 0, sample := 0, average := 1, scan := none, skipped := 0
    lva := { num := 0, feeds := Vector.replicate 4 { state := .normal, budget := 0, held := 0, free := 0, scale := 256 } } }

/-- The part right after reset: POWER_UP, every block at its cold-start values, no flash answering yet, no command
waiting. -/
def State.reset : State :=
  { cfl := { startup := .powerUp, fault := none, residentsLoaded := false, staging := .idle, restarting := false,
             image := blankImage, flash := .silent, layout := [] }
    links := Vector.replicate 4 LinkState.reset
    osu := { seq := 0, standing := .lit, testPending := false,
             chains := Vector.replicate 48 { state := .unused, badRun := 0, goodRun := 0 },
             scanning := none, built := none, feedLines := Vector.replicate 4 false }
    zones := Vector.replicate 16 ZoneRun.reset
    cmp := Cmp.reset
    ast := { directory := [], freeBlocks := 4096 }
    csu := { clocks := Vector.replicate 3 ClockRec.initial, capture := none, score := Vector.replicate 16 0,
             period := none, hornTime := 0, hornLine := false, stopFilter := 0, stopLevel := false, stopRun := 0 }
    cqs := Cqs.reset
    mse := { queue := [], display := none, markMessage := false, emergency := .none, alarmFilter := 10,
             alarmLevel := false, alarmRun := 0 }
    rot := { ring := [], makegood := [], insert := [], triggers := Vector.replicate 8 none,
             zones := Vector.replicate 16 none, nextAiring := 0 }
    exu := { contracts := Vector.replicate 64 Contract.unused, records := [], creditedThrough := none, log := [],
             logLost := 0 }
    fmn := Fmn.reset
    freeCount := 0
    pending := [] }

end Sys2Proof.Machine
end

