-- ==== Sys2Proof/Machine/Bytes.lean ====
section
/-! DEFINITION. Bytes on the links and in the image: byte order, CRCs, and the bounded counts and comparisons the rules
use. -/

namespace Sys2Proof.Machine

/-- Evaluates `n` to a numeral before it goes into `f`; the value is that of `f n`. -/
def strict {α : Type} (n : Nat) (f : Nat → α) : α :=
  match n with
  | 0 => f 0
  | k + 1 => f (k + 1)

/-- The byte at an offset of a payload, as a number. -/
def byteAt (p : List Byte) (i : Nat) : Nat := (p.getD i 0).toNat

/-- A 2-byte field, most significant byte first (section 13). -/
def half (p : List Byte) (i : Nat) : Nat := byteAt p i * 256 + byteAt p (i + 1)

/-- A 4-byte field, most significant byte first (section 13). -/
def word (p : List Byte) (i : Nat) : Nat := half p i * 65536 + half p (i + 2)

/-- An n-byte field written most significant byte first. -/
def field : Nat → Nat → List Byte
  | 0, _ => []
  | n + 1, v => BitVec.ofNat 8 (v / 256 ^ n) :: field n v

/-- A field of `n` bits read in two's complement (R193). -/
def signed (n v : Nat) : Int := if v < 2 ^ (n - 1) then v else (v : Int) - 2 ^ n

/-- An integer clamped to 0 and a limit. -/
def clampInt (v : Int) (limit : Nat) : Nat := min v.toNat limit

/-- A number clamped to a range. -/
def clamp (lo hi v : Nat) : Nat := max lo (min hi v)

/-- ceil(a / b). -/
def ceilDiv (a b : Nat) : Nat := (a + b - 1) / b

/-- A count that stays at its end value. -/
def bump (limit n : Nat) : Nat := if n < limit then n + 1 else n

/-- 0.5: one number is earlier than another when it lies less than 2^31 behind it. -/
def earlier (a b : Seq) : Bool := a != b && (b - a).toNat < 2 ^ 31

/-- One bit of the CRC-16 of R190. -/
def crc16Bit (c : Nat) : Nat :=
  if c.testBit 15 then ((c * 2) % 65536).xor 4129 else (c * 2) % 65536

/-- One byte of the CRC-16 of R190. -/
def crc16Byte (c : Nat) (b : Byte) : Nat :=
  strict (crc16Bit (crc16Bit (crc16Bit (crc16Bit (crc16Bit (crc16Bit (crc16Bit (crc16Bit
    (c.xor (b.toNat * 256)))))))))) id

/-- The CRC-16 of R190, from a running value. -/
def crc16From (c : Nat) : List Byte → Nat
  | [] => c
  | b :: l => strict (crc16Byte c b) fun c' => crc16From c' l

/-- The CRC-16 of R190. -/
def crc16 (l : List Byte) : Nat := crc16From 65535 l

/-- One bit of the CRC-32 of R191. -/
def crc32Bit (c : Nat) : Nat := if c.testBit 0 then (c / 2).xor 3988292384 else c / 2

/-- One byte of the CRC-32 of R191, least significant bit first. -/
def crc32Byte (c : Nat) (b : Byte) : Nat :=
  strict (crc32Bit (crc32Bit (crc32Bit (crc32Bit (crc32Bit (crc32Bit (crc32Bit (crc32Bit
    (c.xor b.toNat))))))))) id

/-- The CRC-32 of R191 before the last inversion, from a running value. -/
def crc32From (c : Nat) : List Byte → Nat
  | [] => c
  | b :: l => strict (crc32Byte c b) fun c' => crc32From c' l

/-- The CRC-32 of R191. -/
def crc32 (l : List Byte) : Nat := (crc32From 4294967295 l).xor 4294967295

/-- The sum of the values of some bytes. -/
def byteSum (l : List Byte) : Nat := l.foldl (fun a b => a + b.toNat) 0

/-- Some vector entry replaced by a function of it. -/
def upd {α : Type} {n : Nat} (v : Vector α n) (i : Fin n) (f : α → α) : Vector α n := v.set i (f v[i]) i.isLt

/-- The numbers below `n`, rising. -/
def allFin (n : Nat) : List (Fin n) := List.ofFn id

/-! ## Numbered records kept as a list by rising number -/

/-- The record of a number, `d` when the list has none. -/
def entryAt {α : Type} (d : α) : List (Nat × α) → Nat → α
  | [], _ => d
  | (k, a) :: l, i => if k = i then a else entryAt d l i

/-- The record of a number, if the list has one. -/
def entryAt? {α : Type} : List (Nat × α) → Nat → Option α
  | [], _ => none
  | (k, a) :: l, i => if k = i then some a else entryAt? l i

/-- The list with the record of a number written. -/
def putEntry {α : Type} (i : Nat) (a : α) : List (Nat × α) → List (Nat × α)
  | [] => [(i, a)]
  | (k, b) :: l =>
    if i < k then (i, a) :: (k, b) :: l else if i = k then (i, a) :: l else (k, b) :: putEntry i a l

/-- The list without the record of a number. -/
def dropEntry {α : Type} (i : Nat) : List (Nat × α) → List (Nat × α)
  | [] => []
  | (k, b) :: l => if i = k then l else (k, b) :: dropEntry i l

/-- The lowest number below `bound` that the list does not hold, counted from `i`. -/
def lowestFree {α : Type} (bound i : Nat) : List (Nat × α) → Option Nat
  | [] => if i < bound then some i else none
  | (k, _) :: l => if i < k then some i else lowestFree bound (k + 1) l

end Sys2Proof.Machine
end

