-- ==== Sys2Proof/Machine/Operands.lean ====
section
/-! DEFINITION. The operands of commands: request codes and groups, the coded values of R193, the parts of content
descriptors, and the configured figures of zones and chains. -/

namespace Sys2Proof.Machine

/-! ## Request codes (R190) and groups (R9) -/

/-- Request groups (R9). -/
inductive Group | common | timing | replay | sponsor | message | power | restart | image
deriving DecidableEq, Repr

/-- The group of a request code of section 13; none for an undefined code and for HELLO, which is no queued request. -/
def groupOf (code : Nat) : Option Group :=
  if 2 ≤ code ∧ code ≤ 9 ∨ 16 ≤ code ∧ code ≤ 21 then some .common
  else if 32 ≤ code ∧ code ≤ 44 then some .timing
  else if 48 ≤ code ∧ code ≤ 51 then some .replay
  else if 64 ≤ code ∧ code ≤ 66 then some .message
  else if 80 ≤ code ∧ code ≤ 90 then some .sponsor
  else if 96 ≤ code ∧ code ≤ 100 then some .power
  else if code = 112 then some .restart
  else if 113 ≤ code ∧ code ≤ 115 then some .image
  else none

/-- The requests LC admits in SAFE besides HELLO (R10). -/
def admittedInSafe (code : Nat) : Bool := code == 2 || code == 112 || code == 113 || code == 114 || code == 115

/-- R9: whether a role and rights admit a group. -/
def admits (p : LinkParams) : Group → Bool
  | .common => true
  | .timing => p.role == .timing
  | .replay => p.role == .replay
  | .sponsor => p.role == .sponsor
  | .message => p.role == .message
  | .power => p.rights.power
  | .restart => p.rights.restart
  | .image => p.rights.config

/-- The link parameters every link uses outside RUN (R1, the SAFE values). The empty protection range as base 1 and limit
0 is the model's choice (log entry 50). -/
def safeParams : LinkParams :=
  { baud := 115200, role := .observer, rights := ⟨false, false, false⟩, keepalive := 1000, holdOver := 10,
    protBase := 1, protLimit := 0, subs := [] }

/-- Status codes (R190); 6 is not used. -/
def Status.code : Status → Nat
  | .ok => 0
  | .full => 1
  | .notUp => 2
  | .denied => 3
  | .form => 4
  | .range => 5
  | .state => 7
  | .held => 8
  | .inUse => 9
  | .noAsset => 10
  | .noSpace => 11
  | .unknown => 12
  | .configFault => 13

/-- Notice codes (R190). -/
def noticeCode : NoticeKind → Nat
  | .clockEvent => 1
  | .claimChange => 2
  | .cueState => 3
  | .msgState => 4
  | .airingClosed => 5
  | .makegoodDropped => 6
  | .triggerLost => 7
  | .feedState => 8
  | .chainState => 9
  | .assetState => 10

/-- A subscription set as two bytes: bit k − 1 is set when the notice of code k is subscribed (R190). -/
def subscriptionField (l : List NoticeKind) : List Byte :=
  field 2 ((List.range 10).map fun i => if l.any fun k => noticeCode k == i + 1 then 2 ^ i else 0).sum

/-! ## Coded values (R193) -/

/-- Role codes. -/
def roleOf : Nat → Option Role
  | 0 => some .timing
  | 1 => some .replay
  | 2 => some .sponsor
  | 3 => some .message
  | 4 => some .observer
  | _ => none

/-- A number read as an index below `n`. -/
def index? (n v : Nat) : Option (Fin n) := if h : v < n then some ⟨v, h⟩ else none

/-- Message class codes of records (EVACUATE, 3, is handled apart). -/
def messageClassOf : Nat → Option MessageClass
  | 0 => some .info
  | 1 => some .prompt
  | 2 => some .alert
  | _ => none

/-- Zone class codes of ADD_SPOT. -/
def spotClassOf : Nat → Option SpotClass
  | 0 => some .sponsor
  | 1 => some .main
  | _ => none

/-- Eligibility codes. -/
def eligibilityOf : Nat → Option Eligibility
  | 0 => some .any
  | 1 => some .gameRunning
  | 2 => some .gameStopped
  | _ => none

/-- Trigger sources with their parameter; the parameter of GAME_STOPPED is not read. -/
def triggerOf (source parameter : Nat) : Option TriggerSource :=
  match source with
  | 0 => (index? 16 parameter).map .scoreUp
  | 1 => (index? 3 parameter).map .expiry
  | 2 => some .gameStopped
  | 3 => (index? 3 parameter).map .warn
  | _ => none

/-- Range codes. -/
def rangeOf : Nat → Option SenseRange
  | 0 => some .low
  | 1 => some .high
  | _ => none

/-- The order of message classes, highest last. -/
def MessageClass.rank : MessageClass → Nat
  | .info => 0
  | .prompt => 1
  | .alert => 2

/-- The class of a zone a make-good entry carries (R164). -/
def spotClassOfZone : ZoneClass → SpotClass
  | .main => .main
  | _ => .sponsor

/-! ## Content descriptors (R34) -/

/-- The kind of a content. -/
def Content.kind : Content → ContentKind
  | .none => .none
  | .blank _ => .blank
  | .asset .. => .asset
  | .clip .. => .clip
  | .clock => .clock
  | .score => .score
  | .message .. => .message
  | .alert .. => .alert
  | .evac _ => .evac
  | .gap => .gap

/-- The asset a content names. -/
def Content.assetId : Content → Option Nat
  | .asset a _ _ _ => some a
  | .message a _ _ _ => some a
  | .alert a _ _ _ => some a
  | .evac a => some a
  | _ => Option.none

/-- The airing a content carries. -/
def Content.airing : Content → Option AiringRef
  | .asset _ _ r _ => r
  | _ => Option.none

/-- Whether a content is GAP. -/
def Content.isGap : Content → Bool
  | .gap => true
  | _ => false

/-- Whether a content is the zone's fallback, or BLANK (R49). -/
def Content.isFallback : Content → Bool
  | .asset _ _ _ f => f
  | .blank _ => true
  | _ => false

/-- A zone's fallback content, or BLANK when it has none; its requested level is 255 (R56). -/
def fallbackOf (z : ZoneCfg) : Content :=
  match z.fallback with
  | some a => .asset a 255 none true
  | none => .blank true

/-- R56: the requested level of a content in a zone; NONE has none. -/
def requestedLevel (g : ZoneCfg) : Content → Option Nat
  | .none => Option.none
  | .blank _ => some 0
  | .asset _ l _ fallback => some (if fallback then 255 else l)
  | .clip _ l => some l
  | .clock => some g.level
  | .score => some g.level
  | .message _ _ _ l => some l
  | .alert _ _ _ l => some l
  | .evac _ => some 255
  | .gap => some 0

/-! ## Claim stacks (R41) -/

/-- The top: the highest level that holds an entry. -/
def ClaimStack.top (k : ClaimStack) : Nat :=
  if k.alert.isSome then 3 else if k.takeover.isSome then 2 else if k.replay.isSome then 1 else 0

/-- The holder at a level. -/
def ClaimStack.holder (k : ClaimStack) : Nat → Option Holder
  | 0 => some .rotation
  | 1 => k.replay.map fun e => .link e.1
  | 2 => k.takeover.map fun e => .link e.1
  | 3 => k.alert.map fun _ => .messageEngine
  | _ => none

/-- The content at a level. -/
def ClaimStack.content (k : ClaimStack) : Nat → Option Content
  | 0 => some k.rotation
  | 1 => k.replay.map (·.2)
  | 2 => k.takeover.map (·.2)
  | 3 => k.alert
  | _ => none

/-- The holder of the top entry. -/
def ClaimStack.topHolder (k : ClaimStack) : Holder := (k.holder k.top).getD .rotation

/-- The content of the top entry. -/
def ClaimStack.topContent (k : ClaimStack) : Content := (k.content k.top).getD k.rotation

/-- The stack with the entry of a level written; level 0 keeps its holder. -/
def ClaimStack.put (k : ClaimStack) (level : Nat) (h : Holder) (c : Content) : ClaimStack :=
  match level, h with
  | 0, _ => { k with rotation := c }
  | 1, .link l => { k with replay := some (l, c) }
  | 2, .link l => { k with takeover := some (l, c) }
  | 3, _ => { k with alert := some c }
  | _, _ => k

/-- The stack with the content of an occupied level replaced. -/
def ClaimStack.replace (k : ClaimStack) (level : Nat) (c : Content) : ClaimStack :=
  match level with
  | 0 => { k with rotation := c }
  | 1 => { k with replay := k.replay.map fun e => (e.1, c) }
  | 2 => { k with takeover := k.takeover.map fun e => (e.1, c) }
  | 3 => { k with alert := k.alert.map fun _ => c }
  | _ => k

/-- The stack with a level emptied; level 0 cannot be. -/
def ClaimStack.remove (k : ClaimStack) : Nat → ClaimStack
  | 1 => { k with replay := none }
  | 2 => { k with takeover := none }
  | 3 => { k with alert := none }
  | _ => k

/-! ## Assets (R69) -/

/-- Byte total of a shape. -/
def shapeTotal (h : Shape) : Nat := h.width * h.height * h.frames * 3072

/-- Block count of a shape. -/
def shapeBlocks (h : Shape) : Nat := ceilDiv (shapeTotal h) 131072

/-- The ranges of R69. -/
def shapeOk (h : Shape) : Bool :=
  1 ≤ h.width && h.width ≤ 64 && 1 ≤ h.height && h.height ≤ 32 && 1 ≤ h.frames && h.frames ≤ 64 &&
    1 ≤ h.interval && h.interval ≤ 255

/-- The record of an EMPTY asset. -/
def AssetRec.blank : AssetRec := { body := .empty, refs := 0 }

/-- Blocks an asset record holds. -/
def AssetBody.blocks : AssetBody → Nat
  | .empty => 0
  | .loading h _ _ _ => shapeBlocks h
  | .ready h _ _ => shapeBlocks h

/-- Whether a record is READY. -/
def AssetBody.isReady : AssetBody → Bool
  | .ready .. => true
  | _ => false

/-! ## Chains (R19) -/

/-- The tiles of a chain. -/
def chainTiles (im : Image) (c : Nat) : List TileRec := im.geometry.tiles.filter (·.chain == c)

/-- A chain's length: its highest occupied position plus one. -/
def chainLength (im : Image) (c : Nat) : Nat := (chainTiles im c).foldl (fun m t => max m (t.position + 1)) 0

/-- Whether a chain has a tile. -/
def chainUsed (im : Image) (c : Nat) : Bool := im.geometry.tiles.any (·.chain == c)

end Sys2Proof.Machine
end

