-- ==== Sys2Proof/Machine/Flags.lean ====
section
/-! DEFINITION. The computed flags and states: warn-armed, MET, feed states, runs of filters, chain health moves. -/

namespace Sys2Proof.Machine

/-- R92: the warn-armed flag after a value is written. -/
def ClockRec.arm (c : ClockRec) : Bool := c.dir == .down && 0 < c.warning && c.warning < c.value

/-- The end a clock counts toward (R84). -/
def ClockRec.endValue (c : ClockRec) : Nat :=
  match c.dir with
  | .down => 0
  | .up => c.limit

/-- Whether a clock's value is at its end. -/
def ClockRec.atEnd (c : ClockRec) : Bool := c.value == c.endValue

/-- R140: the state of a contract left OPEN or MET. -/
def openOrMet (earned target : Nat) : ContractState := if target ≤ earned then .met else .opened

/-- R172: the state of a feed. -/
def Feed.state (f : Feed) : FeedState := if f.tripped then .tripped else if f.derate = 256 then .normal else .derated

/-- R172: the effective budget floor(B × d / 256). -/
def Feed.effective (f : Feed) : Nat := f.budget * f.derate / 256

/-- One sample of a filtered line: the accepted level and the run count after it, and whether the sampled level was
accepted; `need` samples of a new level are needed (R95, R134). A run kept over a warm restart that is already above a
smaller `need` accepts at the next differing sample (log entry 56). -/
def filterLine (need : Nat) (accepted : Bool) (run : Nat) (sample : Bool) : Bool × Nat × Bool :=
  if sample = accepted then (accepted, 0, false)
  else if need ≤ run + 1 then (sample, 0, true)
  else (accepted, run + 1, false)

/-- R24: a chain's record after a good or bad return. -/
def ChainRec.judge (r : ChainRec) (good : Bool) : ChainRec :=
  match r.state, good with
  | .unused, _ => r
  | .ok, true => r
  | .ok, false => { r with state := .suspect, badRun := 1 }
  | .suspect, true => { r with state := .ok, badRun := 0 }
  | .suspect, false =>
    if 3 ≤ r.badRun + 1 then { state := .fault, badRun := 0, goodRun := 0 } else { r with badRun := r.badRun + 1 }
  | .fault, true => if 8 ≤ r.goodRun + 1 then { r with state := .ok, goodRun := 0 } else { r with goodRun := r.goodRun + 1 }
  | .fault, false => { r with goodRun := 0 }

/-- A used chain after a reset of its health (R26, R30). -/
def ChainRec.fresh : ChainRec := { state := .ok, badRun := 0, goodRun := 0 }

/-- The class of a monitor scan for a feed (R176). -/
inductive ScanClass | stressing | relieving | neutral
deriving DecidableEq, Repr

/-- The thresholds in effect of a current channel (R170). -/
def Channel.rangeSet (c : Channel) : RangeSet :=
  match c.setting with
  | .current l h => if c.effect = .low then l else h
  | .voltage .. => ⟨0, 0, 0, 0⟩

/-- The calibration in effect (R174). -/
def Channel.calibration (c : Channel) : Nat :=
  match c.setting with
  | .current .. => c.rangeSet.cal
  | .voltage cal _ _ _ => cal

/-- Trip-under, sag and recover of a voltage channel. -/
def Channel.voltageSet (c : Channel) : Nat × Nat × Nat :=
  match c.setting with
  | .voltage _ t s r => (t, s, r)
  | .current .. => (0, 0, 0)

/-- A test on the last value of an enabled channel; a disabled channel, or one without a value, fails it. -/
def Channel.reads (c : Channel) (test : Nat → Bool) : Bool :=
  c.enabled && (match c.last with
    | some v => test v
    | none => false)

/-- R175: a current above its trip threshold. -/
def Channel.overTrip (c : Channel) : Bool := c.reads fun v => c.rangeSet.trip < v

/-- R175: a voltage below its trip-under threshold. -/
def Channel.underTrip (c : Channel) : Bool := c.reads fun v => v < c.voltageSet.1

/-- R176: the class of a scan for a feed with the given channels. -/
def classOf (current voltage : Channel) : ScanClass :=
  if (current.reads fun v => current.rangeSet.high < v) || (voltage.reads fun v => v < voltage.voltageSet.2.1) then
    .stressing
  else if (!current.enabled || current.reads fun v => v < current.rangeSet.low) &&
      (!voltage.enabled || voltage.reads fun v => voltage.voltageSet.2.2 < v) then
    .relieving
  else .neutral

end Sys2Proof.Machine
end

