-- ==== Sys2Proof/Machine/Ops.lean ====
section
/-! DEFINITION. The named operations on the state that several blocks share: reaching a record, replies and notices,
asset and contract references, pending and current content. -/

namespace Sys2Proof.Machine

/-! ## Records -/

def State.modLink (s : State) (l : Link) (f : LinkState → LinkState) : State := { s with links := upd s.links l f }

def State.modZone (s : State) (z : ZoneId) (f : ZoneRun → ZoneRun) : State := { s with zones := upd s.zones z f }

def State.modContract (s : State) (c : ContractId) (f : Contract → Contract) : State :=
  { s with exu := { s.exu with contracts := upd s.exu.contracts c f } }

def State.modFeed (s : State) (i : FeedId) (f : Feed → Feed) : State :=
  { s with fmn := { s.fmn with feeds := upd s.fmn.feeds i f } }

def State.modChannel (s : State) (i : ChannelId) (f : Channel → Channel) : State :=
  { s with fmn := { s.fmn with channels := upd s.fmn.channels i f } }

def State.modClock (s : State) (c : ClockId) (f : ClockRec → ClockRec) : State :=
  { s with csu := { s.csu with clocks := upd s.csu.clocks c f } }

def State.modRotZone (s : State) (z : ZoneId) (f : RotZone → RotZone) : State :=
  { s with rot := { s.rot with zones := upd s.rot.zones z (Option.map f) } }

/-- A zone's configured fields (R32). -/
def State.zoneCfg (s : State) (z : ZoneId) : ZoneCfg := s.cfl.image.zones[z]

def State.isMain (s : State) (z : ZoneId) : Bool := (s.zoneCfg z).cls == .main

def State.inRun (s : State) : Bool := s.cfl.startup == .run

/-- The parameters a link runs with: the image's in RUN, the SAFE values otherwise (R1). -/
def State.params (s : State) (l : Link) : LinkParams :=
  match s.cfl.startup with
  | .run => s.cfl.image.linkTable.links[l]
  | _ => safeParams

/-- GAME is clock 0 (R84). -/
def State.gameRunning (s : State) : Bool := s.csu.clocks[(0 : Fin 3)].state == .running

/-- The stream-owner link (R105). -/
def State.owner (s : State) : Option Link := s.cfl.image.linkTable.streamOwner.bind (index? 4)

/-- The alert zone: the MAIN zone with the alert flag (section 8.4). -/
def State.alertZone (s : State) : Option ZoneId := (allFin 16).find? fun z => s.isMain z && (s.zoneCfg z).alert

/-- The mirror group a zone leads (R49). -/
def State.leaderOf (s : State) (z : ZoneId) : Option (Fin 4) :=
  (allFin 4).find? fun g => match s.cfl.image.groups[g] with
    | some m => m.leader == z.val
    | none => false

/-- The mirror group a zone follows in (R49). -/
def State.followerOf (s : State) (z : ZoneId) : Option (Fin 4) :=
  (allFin 4).find? fun g => match s.cfl.image.groups[g] with
    | some m => m.followers.contains z.val
    | none => false

/-- The followers of the group a zone leads. -/
def State.followers (s : State) (z : ZoneId) : List ZoneId :=
  match s.leaderOf z with
  | some g => match s.cfl.image.groups[g] with
    | some m => m.followers.filterMap (index? 16)
    | none => []
  | none => []

/-! ## Notices (R15) -/

def TxFrame.isNotice : TxFrame → Bool
  | .notice _ => true
  | .reply .. => false

def LinkState.noticeCount (l : LinkState) : Nat := (l.tx.filter TxFrame.isNotice).length

/-- A notice copy on one link: it enters while fewer than 12 notices are queued and an entry is free. -/
def LinkState.offer (l : LinkState) (n : Notice) : LinkState :=
  if l.noticeCount < 12 ∧ l.tx.length < 16 then { l with tx := l.tx ++ [.notice n] } else { l with overrun := true }

/-- The kind of a notice (1.8). -/
def Notice.kind : Notice → NoticeKind
  | .clockEvent .. => .clockEvent
  | .claimChange .. => .claimChange
  | .cueState .. => .cueState
  | .message .. => .msgState
  | .emergency .. => .msgState
  | .airingClosed .. => .airingClosed
  | .makegoodDropped .. => .makegoodDropped
  | .triggerLost .. => .triggerLost
  | .feedState .. => .feedState
  | .chainState .. => .chainState
  | .assetState .. => .assetState

/-- The payload bytes of a notice: the blocks' sections give its fields, no rule their layout (log entry 25). -/
opaque noticeFields : Notice → List Byte

/-- The bytes of a reply after the status byte where no rule gives the layout of its fields (log entry 25). -/
opaque replyFields : ReplyBody → List Byte

/-- The bytes of a reply after the status byte. -/
def ReplyBody.payload : ReplyBody → List Byte
  | .empty => []
  | .bytes l => l
  | b => replyFields b

/-- The frame kind, tag, code and payload of a frame sent; a notice carries tag 0 (R15, R190). A payload of free bytes is
cut to the 1,024 a frame can hold. -/
def TxFrame.fields : TxFrame → Nat × Byte × Byte × List Byte
  | .reply tag code st b => (2, tag, code, (BitVec.ofNat 8 st.code :: b.payload).take 1024)
  | .notice n => (3, 0, BitVec.ofNat 8 (noticeCode n.kind), (noticeFields n).take 1024)

/-- The bytes the CRC-16 of a frame covers: length, kind, tag, code and payload (R190). -/
def coveredBytes (kind : Nat) (tag code : Byte) (payload : List Byte) : List Byte :=
  field 2 payload.length ++ BitVec.ofNat 8 kind :: tag :: code :: payload

/-- A link frame as bytes (R190). -/
def wireBytes (kind : Nat) (tag code : Byte) (payload : List Byte) : List Byte :=
  165 :: (coveredBytes kind tag code payload ++ field 2 (crc16 (coveredBytes kind tag code payload)))

/-- A frame sent as bytes. -/
def TxFrame.bytes (f : TxFrame) : List Byte := wireBytes f.fields.1 f.fields.2.1 f.fields.2.2.1 f.fields.2.2.2

/-- What a link's transmitter is sending: the oldest entry, in every link state but DOWN (R14). -/
def LinkState.sending (l : LinkState) : Option TxFrame :=
  match l.mode with
  | .down => none
  | _ => l.tx.head?

/-- The bytes of the frame on a link's line. -/
def State.onLine (s : State) (l : Link) : List Byte := ((s.links[l]).sending.map TxFrame.bytes).getD []

/-- R15: a copy on every link that is UP and subscribed. -/
def notify (n : Notice) (s : State) : State :=
  { s with links := Vector.ofFn fun l =>
      if (s.links[l]).mode = .up ∧ n.kind ∈ (s.params l).subs then (s.links[l]).offer n else s.links[l] }

/-! ## Replies (R12, R13, R14) -/

/-- The reply to an executed request: it enters the transmit queue, or waits with its FIFO entry occupied. -/
def LinkState.answer (l : LinkState) (f : TxFrame) : LinkState :=
  if l.tx.length < 16 then { l with tx := l.tx ++ [f], executing := .idle } else { l with executing := .replyWaiting f }

/-- A reply given at arrival: dropped when all 16 entries are occupied. -/
def LinkState.answerAtArrival (l : LinkState) (f : TxFrame) : LinkState :=
  if l.tx.length < 16 then { l with tx := l.tx ++ [f] } else l

/-- The FIFO entries a link occupies (R11). A request whose link has ended since holds none, which is the model's choice
(log entry 69). -/
def LinkState.entries (l : LinkState) : Nat :=
  l.fifo.length + match l.executing with
    | .idle => 0
    | .running _ orphan => if orphan then 0 else 1
    | .replyWaiting _ => 1

/-- What an owner returns for a request. -/
structure Answer where
  state : State
  status : Status
  body : ReplyBody

/-- A refusal without effect (R13). -/
def refuse (st : Status) (s : State) : Answer := ⟨s, st, .empty⟩

/-- The request of a link handed to its owner, with the mark that the link has ended since. -/
def State.request (s : State) (l : Link) : Option (Request × Bool) :=
  match (s.links[l]).executing with
  | .running r orphan => some (r, orphan)
  | _ => none

/-! ## Asset references (R77) -/

def State.asset (s : State) (id : Nat) : AssetRec := entryAt AssetRec.blank s.ast.directory id

/-- An asset record written; an EMPTY record without references is not listed. -/
def State.putAsset (s : State) (id : Nat) (r : AssetRec) : State :=
  { s with ast := { s.ast with directory :=
      match r.body, r.refs with
      | .empty, 0 => dropEntry id s.ast.directory
      | _, _ => putEntry id r s.ast.directory } }

/-- The take: none is the refusal NO_ASSET. -/
def takeAsset (id : Nat) (s : State) : Option State :=
  if (s.asset id).body.isReady then some (s.putAsset id { s.asset id with refs := (s.asset id).refs + 1 }) else none

/-- A take of the asset a content names, if it names one; a refused take counts nothing. -/
def takeRef (c : Content) (s : State) : State :=
  match c.assetId with
  | some a => (takeAsset a s).getD s
  | none => s

def giveAsset (id : Nat) (s : State) : State := s.putAsset id { s.asset id with refs := (s.asset id).refs - 1 }

def giveRef (c : Content) (s : State) : State :=
  match c.assetId with
  | some a => giveAsset a s
  | none => s

/-! ## Contract references (R141) -/

def takeContract (c : ContractId) (s : State) : State := s.modContract c fun k => { k with refs := k.refs + 1 }

def giveContract (c : ContractId) (s : State) : State := s.modContract c fun k => { k with refs := k.refs - 1 }

/-! ## Zone content (R38, R46, R50) -/

/-- A write of pending content; the reference of the new content is taken before that of the old is given back. -/
def writePending (z : ZoneId) (c : Content) (s : State) : State :=
  let old := (s.zones[z]).pending
  let s := (takeRef c s).modZone z fun r => { r with pending := some c }
  match old with
  | some o => giveRef o s
  | none => s

/-- A content made current with its start frame. -/
def setCurrent (z : ZoneId) (c : Content) (start : Seq) (s : State) : State :=
  let old := (s.zones[z]).current
  giveRef old ((takeRef c s).modZone z fun r => { r with current := c, start := start })

/-- The pending place emptied. -/
def dropPending (z : ZoneId) (s : State) : State :=
  match (s.zones[z]).pending with
  | some o => giveRef o (s.modZone z fun r => { r with pending := none })
  | none => s

/-- Whether a gap is under way or a GAP is pending (R46). -/
def ZoneRun.gapping (r : ZoneRun) : Bool :=
  r.current.isGap || (match r.pending with
    | some c => c.isGap
    | none => false)

/-- R46: the holder of an entry writes the entry's content. -/
def writeEntry (z : ZoneId) (level : Nat) (c : Content) (s : State) : State :=
  let r := s.zones[z]
  let s := s.modZone z fun r => { r with stack := r.stack.replace level c }
  if r.stack.top = level ∧ r.gapping = false then writePending z c s else s

/-! ## Clip slots (R106, R107) -/

def State.slot (s : State) (i : Nat) : Option Slot := entryAt? s.cqs.slots i

/-- The slots of a cue, their number its held count. -/
def State.heldCount (s : State) (cue : Nat) : Nat := (s.cqs.slots.filter fun e => e.2.cue == cue).length

/-- A slot becomes FREE, with a grant while the stream is UP. -/
def vacate (i : Nat) (s : State) : State :=
  { s with cqs := { s.cqs with
      slots := dropEntry i s.cqs.slots
      credits := if s.cqs.streamUp then s.cqs.credits + 1 else s.cqs.credits
      lane := if s.cqs.streamUp then s.cqs.lane ++ [.grant] else s.cqs.lane } }

/-- A free that reaches a slot: held back while the slot carries the read mark. -/
def freeSlot (i : Nat) (s : State) : State :=
  match s.slot i with
  | none => s
  | some sl =>
    if sl.readMark then { s with cqs := { s.cqs with slots := putEntry i { sl with freeHeld := true } s.cqs.slots } }
    else vacate i s

end Sys2Proof.Machine
end

