-- ==== Sys2Proof/Machine/Exposure.lean ====
section
/-! DEFINITION. The Exposure Unit: crediting, closing marks and closures (section 10), the make-good's arrival at the
Rotation Engine (R146), and the contract and log requests (R141 to R143, R167). -/

namespace Sys2Proof.Machine

/-! ## Crediting (R160, R161) -/

/-- The credit of a qualifying entry: the contract after it and the credit. -/
def Contract.credit (k : Contract) (v level : Nat) : Contract × Nat :=
  let n := k.remainder + v * level
  let c := n / 255
  let k' :=
    if k.earned = 4294967295 then k
    else if k.earned + c ≤ 4294967295 then { k with earned := k.earned + c, remainder := n % 255 }
    else { k with earned := 4294967295 }
  (if k'.state = .opened ∧ k'.target ≤ k'.earned then { k' with state := .met } else k', c)

/-- R160: whether an entry qualifies. -/
def FrameEntry.qualifies (e : FrameEntry) (k : Contract) : Bool :=
  k.minLevel ≤ e.level && k.minVisible * e.area ≤ e.visible * 100

def State.openRecord (s : State) (key : RecordKey) : Option OpenRecord := s.exu.records.find? (·.key == key)

/-- The open record of a key, opened with delivered 0 when there is none. -/
def openFor (key : RecordKey) (c : ContractId) (s : State) : State :=
  match s.openRecord key with
  | some _ => s
  | none =>
    let r : OpenRecord := { key := key, contract := c, delivered := 0, mark := none, holdsRef := false }
    { s with exu := { s.exu with records := s.exu.records ++ [r] } }

/-- The open record of a key replaced by a function of it. -/
def modRecord (key : RecordKey) (f : OpenRecord → OpenRecord) (s : State) : State :=
  { s with exu := { s.exu with records := s.exu.records.map fun r => if r.key == key then f r else r } }

/-- One entry of a frame record (R160). -/
def creditEntry (dark : Bool) (s : State) (e : FrameEntry) : State :=
  let s := openFor e.key e.contract s
  let k := s.exu.contracts[e.contract]
  if !dark && e.qualifies k then
    let (k', c) := k.credit e.visible e.level
    modRecord e.key (fun r => { r with delivered := min (r.delivered + c) 4294967295 })
      (s.modContract e.contract fun _ => k')
  else s

/-! ## Closures (R163 to R168) -/

/-- R166: a log entry appended, the oldest pushed out of a full log, and the AIRING_CLOSED notice. -/
def appendLog (e : LogEntry) (s : State) : State :=
  let x := s.exu
  let x := if 256 ≤ x.log.length then { x with log := x.log.tail, logLost := bump 65535 x.logLost } else x
  notify (.airingClosed e.id e.contract e.zone e.source e.outcome e.delivered e.nominal e.queued s.osu.seq)
    { s with exu := { x with log := x.log ++ [e] } }

/-- R146: a make-good entry arriving from the Exposure Unit. -/
def makegoodArrival (e : QueueEntry) (airing : Seq) (s : State) : State :=
  let drop := fun (cause : DropCause) => notify (.makegoodDropped e.contract airing e.duration cause s.osu.seq) s
  if 16 ≤ s.rot.makegood.length then drop .full
  else match takeAsset e.asset s with
    | none => drop .noAsset
    | some s => takeContract e.contract { s with rot := { s.rot with makegood := s.rot.makegood ++ [e] } }

/-- The number a log entry and its notice carry as id. -/
def RecordKey.number : RecordKey → Nat
  | .airing id => id.toNat
  | .cue id _ => id

/-- The make-good of a closure, if one is sent (R164). -/
def makegoodOf (s : State) (r : OpenRecord) (m : Mark) : Option QueueEntry :=
  let k := s.exu.contracts[m.contract]
  let nominal := m.area * m.duration
  if 0 < k.makegood ∧ k.state = .opened ∧ r.delivered * 100 < nominal * k.makegood then
    some { contract := m.contract, asset := m.asset, cls := spotClassOfZone (s.zoneCfg m.zone).cls,
           duration := clamp 1 m.duration (ceilDiv (nominal - r.delivered) m.area), level := m.level }
  else none

def removeRecord (key : RecordKey) (s : State) : State :=
  { s with exu := { s.exu with records := s.exu.records.filter (·.key != key) } }

/-- The log entry of a closure (R165, R166). -/
def logEntryOf (restart queued : Bool) (r : OpenRecord) (m : Mark) : LogEntry :=
  { id := m.key.number, contract := m.contract, zone := m.zone, source := m.source, first := m.first, last := m.last,
    duration := m.duration, frames := m.frames, delivered := r.delivered, nominal := m.area * m.duration,
    outcome := m.outcome, queued := queued, restart := restart }

/-- The closure of an open record with its mark (R164, R165; with `restart`, R168). -/
def closeRecord (restart : Bool) (r : OpenRecord) (m : Mark) (s : State) : State :=
  match m.key with
  | .airing id =>
    let entry := if restart then none else makegoodOf s r m
    let s := match entry with
      | some e => makegoodArrival e id s
      | none => s
    removeRecord r.key (giveContract m.contract (appendLog (logEntryOf restart entry.isSome r m) s))
  | .cue _ _ =>
    let s := appendLog (logEntryOf restart false r m) s
    removeRecord r.key (if r.holdsRef then giveContract m.contract s else s)

/-- R163: the closure test. -/
def closureTest (s : State) (m : Mark) : Bool :=
  match s.exu.creditedThrough with
  | some c => !earlier c m.last
  | none => false

/-- The closure test of one record, and its closure. -/
def testRecord (s : State) (r : OpenRecord) : State :=
  match r.mark with
  | some m => if closureTest s m then closeRecord false r m s else s
  | none => s

/-- R162: a closing mark reaches EXU. -/
def takeMark (m : Mark) (s : State) : State :=
  let s := openFor m.key m.contract s
  let takes := match m.key, s.openRecord m.key with
    | .cue _ _, some r => !r.holdsRef
    | _, _ => false
  let s := if takes then takeContract m.contract s else s
  let s := modRecord m.key (fun r => { r with mark := some m, holdsRef := r.holdsRef || takes }) s
  match s.openRecord m.key with
  | some r => testRecord s r
  | none => s

/-- R168: a mark flagged as closed by restart. -/
def takeRestartMark (m : Mark) (s : State) : State :=
  let s := openFor m.key m.contract s
  match s.openRecord m.key with
  | some r => closeRecord true r m s
  | none => s

/-- R160: a frame record delivered, credited, and the closure tests after it; of several records that close, the one opened
first closes first (log entry 61). -/
def deliver (rec : FrameRecord) (s : State) : State :=
  let s := rec.entries.foldl (creditEntry rec.dark) s
  let s := { s with exu := { s.exu with creditedThrough := some rec.num } }
  s.exu.records.foldl testRecord s

/-- R169: every open record that still holds a mark is closed as by restart, in order of opening (log entry 61), and the
table emptied. -/
def closeAllByRestart (s : State) : State :=
  let s := s.exu.records.foldl (fun s r => match r.mark with
    | some m => closeRecord true r m s
    | none => s) s
  { s with exu := { s.exu with records := [] } }

/-! ## Contract requests (R141 to R143) -/

def doDefine (p : List Byte) (s : State) : Answer :=
  if p.length ≠ 15 then refuse .form s
  else match index? 64 (byteAt p 0) with
    | none => refuse .range s
    | some c =>
      if 31 < byteAt p 1 ∨ 100 < byteAt p 3 ∨ 100 < byteAt p 4 then refuse .range s
      else if 0 < (s.exu.contracts[c]).refs then refuse .inUse s
      else
        let target := word p 7
        let st : ContractState := if target = 0 then .met else .opened
        ⟨s.modContract c fun k =>
          { category := byteAt p 1, target := target, earned := 0, remainder := 0, holdback := min (word p 11) target,
            minLevel := byteAt p 2, minVisible := byteAt p 3, makegood := byteAt p 4,
            exclusion := BitVec.ofNat 16 (half p 5), state := st, refs := k.refs }, .ok, .contractState st⟩

/-- The contract a request names, or the status that refuses it: FORM, RANGE, then UNKNOWN for UNUSED. -/
def namedContract (len : Nat) (p : List Byte) (s : State) : Except Status ContractId :=
  if p.length ≠ len then .error .form
  else match index? 64 (byteAt p 0) with
    | none => .error .range
    | some c => if (s.exu.contracts[c]).state = .unused then .error .unknown else .ok c

/-- The state of a contract after its target is edited: OPEN and MET follow the target, CLOSED stays. -/
def Contract.retested (k : Contract) : Contract :=
  match k.state with
  | .opened | .met => { k with state := openOrMet k.earned k.target }
  | _ => k

def termsOf (s : State) (c : ContractId) : ReplyBody :=
  .contractTerms (s.exu.contracts[c]).target (s.exu.contracts[c]).holdback (s.exu.contracts[c]).state

def doSetTarget (p : List Byte) (s : State) : Answer :=
  match namedContract 5 p s with
  | .error e => refuse e s
  | .ok c =>
    let s := s.modContract c fun k =>
      Contract.retested { k with target := word p 1, holdback := min k.holdback (word p 1) }
    ⟨s, .ok, termsOf s c⟩

def doSetHoldback (p : List Byte) (s : State) : Answer :=
  match namedContract 5 p s with
  | .error e => refuse e s
  | .ok c =>
    let s := s.modContract c fun k => { k with holdback := min (word p 1) k.target }
    ⟨s, .ok, termsOf s c⟩

def doClose (p : List Byte) (s : State) : Answer :=
  match namedContract 1 p s with
  | .error e => refuse e s
  | .ok c =>
    if (s.exu.contracts[c]).state = .closed then refuse .state s
    else ⟨s.modContract c fun k => { k with state := .closed }, .ok, .empty⟩

def doReopen (p : List Byte) (s : State) : Answer :=
  match namedContract 1 p s with
  | .error e => refuse e s
  | .ok c =>
    if (s.exu.contracts[c]).state = .closed then
      ⟨s.modContract c fun k => { k with state := openOrMet k.earned k.target }, .ok, .empty⟩
    else refuse .state s

/-- Contract state codes of R192. -/
def ContractState.code : ContractState → Nat
  | .unused => 0
  | .opened => 1
  | .met => 2
  | .closed => 3

/-- The contract report of R192, 23 bytes. -/
def contractReport (c : ContractId) (k : Contract) : List Byte :=
  field 1 c.val ++ field 1 k.state.code ++ field 1 k.category ++ field 1 k.minLevel ++ field 1 k.minVisible ++
    field 1 k.makegood ++ field 1 k.remainder ++ field 2 k.exclusion.toNat ++ field 4 k.target ++ field 4 k.earned ++
    field 4 k.holdback ++ field 2 k.refs

def doReadContract (p : List Byte) (s : State) : Answer :=
  if p.length ≠ 1 then refuse .form s
  else match index? 64 (byteAt p 0) with
    | none => refuse .range s
    | some c => ⟨s, .ok, .bytes (contractReport c s.exu.contracts[c])⟩

/-! ## READ_LOG (R167, R192) -/

def LogSource.code : LogSource → Nat
  | .ring => 0
  | .makegood => 1
  | .insert => 2
  | .cue => 3

def Outcome.code : Outcome → Nat
  | .complete => 0
  | .cut => 1
  | .attribution => 2

/-- The airing log entry of R192, 31 bytes. -/
def LogEntry.bytes (e : LogEntry) : List Byte :=
  field 4 e.id ++ field 1 e.contract.val ++ field 1 e.zone.val ++ field 1 e.source.code ++ field 1 e.outcome.code ++
    field 1 ((if e.queued then 1 else 0) + (if e.restart then 2 else 0)) ++ field 4 e.first.toNat ++
    field 4 e.last.toNat ++ field 2 e.duration ++ field 4 e.frames ++ field 4 e.delivered ++ field 4 e.nominal

def doReadLog (p : List Byte) (s : State) : Answer :=
  if p.length ≠ 1 then refuse .form s
  else
    let n := byteAt p 0
    if n < 1 ∨ 16 < n then refuse .range s
    else
      let taken := s.exu.log.take n
      let left := s.exu.log.drop n
      ⟨{ s with exu := { s.exu with log := left, logLost := 0 } }, .ok,
        .bytes (field 1 taken.length ++ field 2 left.length ++ field 2 s.exu.logLost ++ taken.flatMap LogEntry.bytes)⟩

end Sys2Proof.Machine
end

