-- ==== Sys2Proof/Machine/Rotation.lean ====
section
/-! DEFINITION. The Rotation Engine (section 9): picks, airings, cuts, the rotation step, the trigger table, and its
requests. -/

namespace Sys2Proof.Machine

/-! ## Content ROT writes (R149) -/

/-- Content written for a rotation zone: pending content of a SPONSOR zone, the level-0 entry of a MAIN zone. -/
def rotWrite (z : ZoneId) (c : Content) (s : State) : State :=
  let s := s.modRotZone z fun r => { r with fallbackShown := c.isFallback }
  if s.isMain z then writeEntry z 0 c s else writePending z c s

def rotFallback (z : ZoneId) (s : State) : State := rotWrite z (fallbackOf (s.zoneCfg z)) s

def Airing.content (a : Airing) : Content := .asset a.asset a.level (some ⟨a.id, a.contract⟩) false

/-! ## Cuts and the hold (R155) -/

/-- The airing of a record joins its ending airings. -/
def endAiring (z : ZoneId) (cause : CutCause) (s : State) : State :=
  s.modRotZone z fun r => match r.airing with
    | some a => { r with airing := none, ending := r.ending ++ [{ a with phase := .ending, cut := some cause }] }
    | none => r

/-- A cut other than CUE: the airing goes to ENDING and ROT writes the fallback. -/
def cutAiring (z : ZoneId) (cause : CutCause) (s : State) : State :=
  match s.rot.zones[z] with
  | some r => match r.airing with
    | some _ => rotFallback z (endAiring z cause s)
    | none => s
  | none => s

def cutAndHold (s : State) : State :=
  (allFin 16).foldl (fun s z => cutAiring z .emergency (s.modRotZone z fun r => { r with hold := true })) s

def endHold (s : State) : State :=
  (allFin 16).foldl (fun s z => s.modRotZone z fun r => { r with hold := false }) s

/-! ## Eligibility (R152, R153) -/

/-- R153: whether some content carries a different contract of the same non-zero category. -/
def rivals (s : State) (c other : ContractId) : Bool :=
  other != c && (s.exu.contracts[other]).category == (s.exu.contracts[c]).category

/-- The contracts a rotation zone carries: its airings, and airing content pending or current in the zone. -/
def carriedBy (s : State) (z : ZoneId) (r : RotZone) : List ContractId :=
  r.airing.toList.map (·.contract) ++ r.ending.map (·.contract) ++
    ((s.zones[z]).current.airing.toList.map (·.contract)) ++
    (((s.zones[z]).pending.bind Content.airing).toList.map (·.contract))

/-- Whether a cue counts as attributed content (R110). -/
def Cue.attributed (q : Cue) : Option ContractId :=
  match q.state with
  | .playing | .frozen | .suspended => q.attribution
  | _ => none

/-- R153: the category test of a contract for a zone; `cue` is the contract of a cue that entered PLAYING in this
composition, whether or not the cue is still queued (R156). -/
def categoryPasses (s : State) (cue : Option ContractId) (z : ZoneId) (c : ContractId) : Bool :=
  (s.exu.contracts[c]).category == 0 ||
    !(((allFin 16).any fun y => y != z && (match s.rot.zones[y] with
        | some r => (carriedBy s y r).any (rivals s c)
        | none => false)) ||
      cue.any (rivals s c) ||
      s.cqs.queue.any fun q => match q.attributed with
        | some k => rivals s c k
        | none => false)

/-- R152: the clock condition. -/
def clockPasses (s : State) : Eligibility → Bool
  | .any => true
  | .gameRunning => s.gameRunning
  | .gameStopped => !s.gameRunning

/-- R152: eligibility for a zone. -/
def eligible (s : State) (cue : Option ContractId) (z : ZoneId) (c : ContractId) (e : Eligibility) : Bool :=
  let k := s.exu.contracts[c]
  k.state == .opened && k.earned + k.holdback < k.target && clockPasses s e &&
    !(z :: s.followers z).any (fun y => k.exclusion.getLsbD y.val) && categoryPasses s cue z c

/-- The class of spots a rotation zone shows (R151). -/
def State.spotClass (s : State) (z : ZoneId) : SpotClass := spotClassOfZone (s.zoneCfg z).cls

/-! ## The search (R151) -/

/-- A search of an insert or make-good queue: the entries removed on the way (their contract MET or CLOSED),
the entry taken, and the queue left. -/
def scanQueue (s : State) (cue : Option ContractId) (z : ZoneId) :
    List QueueEntry → List QueueEntry × Option QueueEntry × List QueueEntry
  | [] => ([], none, [])
  | e :: q =>
    let k := s.exu.contracts[e.contract]
    if k.state = .met ∨ k.state = .closed then
      let r := scanQueue s cue z q
      (e :: r.1, r.2.1, r.2.2)
    else if e.cls = s.spotClass z ∧ eligible s cue z e.contract .any then ([], some e, q)
    else
      let r := scanQueue s cue z q
      (r.1, r.2.1, e :: r.2.2)

/-- The references of removed entries given back. -/
def giveEntries (es : List QueueEntry) (s : State) : State :=
  es.foldl (fun s e => giveContract e.contract (giveAsset e.asset s)) s

/-- The ring from the cursor, wrapping round once. -/
def ringFrom (ring : List Spot) (cursor : Option Nat) : List Spot :=
  match cursor with
  | none => ring
  | some id => ring.dropWhile (·.id != id) ++ ring.takeWhile (·.id != id)

/-- The spot that follows one in the ring, wrapping to the first. -/
def nextSpot (ring : List Spot) (id : Nat) : Option Nat :=
  match (ring.dropWhile (·.id != id)).tail.head? with
  | some t => some t.id
  | none => ring.head?.map (·.id)

/-- R154: a new airing in phase PENDING, with the next airing id. -/
def newAiring (z : ZoneId) (source : AiringSource) (spot : Option Nat) (e : QueueEntry) (s : State) : State :=
  let a : Airing :=
    { id := s.rot.nextAiring, phase := AiringPhase.pending, source := source, spot := spot, contract := e.contract
      asset := e.asset, duration := e.duration, level := e.level, frames := 0
      first := none, last := none, cut := none }
  State.modRotZone { s with rot := { s.rot with nextAiring := s.rot.nextAiring + 1 } } z fun r => { r with airing := some a }

def Spot.entry (t : Spot) : QueueEntry :=
  { contract := t.contract, asset := t.asset, cls := t.cls, duration := t.duration, level := t.level }

/-- The first spot of the ring, from the cursor, that a search for a zone takes (R151). -/
def ringPick (s : State) (cue : Option ContractId) (z : ZoneId) : Option Spot :=
  (ringFrom s.rot.ring ((s.rot.zones[z]).bind (·.cursor))).find? fun t =>
    t.cls == s.spotClass z && eligible s cue z t.contract t.elig

/-- A ring spot taken: both references, the airing, and the cursor on the spot that follows (R154). -/
def takeSpot (z : ZoneId) (t : Spot) (s : State) : State :=
  let s := takeContract t.contract ((takeAsset t.asset s).getD s)
  let s := newAiring z .ring (some t.id) t.entry s
  s.modRotZone z fun r => { r with cursor := nextSpot s.rot.ring t.id }

/-- The search of R151 and the taking of R154 without the content write; `cue` is the contract of a cue that
entered PLAYING in this composition (R156), none at a rotation step. -/
def pickEntry (z : ZoneId) (cue : Option ContractId) (s : State) : State :=
  let i := scanQueue s cue z s.rot.insert
  let s := giveEntries i.1 { s with rot := { s.rot with insert := i.2.2 } }
  match i.2.1 with
  | some e => newAiring z .insert none e s
  | none =>
    let m := scanQueue s cue z s.rot.makegood
    let s := giveEntries m.1 { s with rot := { s.rot with makegood := m.2.2 } }
    match m.2.1 with
    | some e => newAiring z .makegood none e s
    | none => match ringPick s cue z with
      | some t => takeSpot z t s
      | none => s

/-- The airing of a rotation zone in phase PENDING or ON_AIR. -/
def State.airing (s : State) (z : ZoneId) : Option Airing := (s.rot.zones[z]).bind (·.airing)

/-- R151: whether a pick is due. -/
def pickDue (s : State) (z : ZoneId) (r : RotZone) : Bool :=
  r.airing.isNone && !r.hold &&
    (!s.isMain z || ((s.zones[z]).stack.top == 0 && !(s.zones[z]).gapping))

/-- The pick of a rotation step, with the content it writes. -/
def pick (z : ZoneId) (s : State) : State :=
  let s := pickEntry z none s
  match s.rot.zones[z] with
  | some r => match r.airing with
    | some a => rotWrite z a.content s
    | none => if r.fallbackShown then s else rotFallback z s
  | none => s

/-! ## The rotation step (R150) -/

/-- One composition counted for an airing. -/
def Airing.count (n : Seq) (a : Airing) : Airing :=
  { a with
    frames := a.frames + 1
    last := some n
    first := if a.frames = 0 then some n else a.first
    phase := if a.phase = .pending then .onAir else a.phase }

def Airing.countIf (n : Seq) (shown : Option Seq) (a : Airing) : Airing := if shown = some a.id then a.count n else a

def AiringSource.log : AiringSource → LogSource
  | .ring => .ring
  | .makegood => .makegood
  | .insert => .insert

/-- The closing mark of an airing (R150, R162). -/
def Airing.mark (a : Airing) (z : ZoneId) (area : Nat) (o : Outcome) : Mark :=
  { key := .airing a.id, contract := a.contract, zone := z, area := area, source := a.source.log,
    first := a.first.getD 0, last := a.last.getD 0, duration := a.duration, frames := a.frames, outcome := o,
    asset := a.asset, level := a.level }

def State.area (s : State) (z : ZoneId) : Nat := (s.zoneCfg z).width * (s.zoneCfg z).height

/-- A rotation step under way: the state, and the closing marks it hands to EXU, in order. What EXU sends
back for them reaches ROT after the whole step (R150). -/
abbrev RotStep := State × List Mark

/-- An airing closed: its asset reference given back, its mark handed to EXU. -/
def closeAiring (z : ZoneId) (o : Outcome) (a : Airing) (s : RotStep) : RotStep :=
  (giveAsset a.asset s.1, s.2 ++ [a.mark z (s.1.area z) o])

/-- An airing withdrawn: both references given back. -/
def withdrawAiring (a : Airing) (s : State) : State := giveContract a.contract (giveAsset a.asset s)

/-- One ending airing closed or withdrawn. -/
def settleEnded (z : ZoneId) (s : RotStep) (a : Airing) : RotStep :=
  if a.frames = 0 then (withdrawAiring a s.1, s.2) else closeAiring z .cut a s

/-- The ending airings closed or withdrawn. -/
def settleEnding (z : ZoneId) (s : RotStep) : RotStep :=
  match s.1.rot.zones[z] with
  | some r => r.ending.foldl (settleEnded z) (s.1.modRotZone z fun r => { r with ending := [] }, s.2)
  | none => s

/-- The airing closed COMPLETE when its duration has run. -/
def settleAiring (z : ZoneId) (s : RotStep) : RotStep :=
  match s.1.airing z with
  | some a =>
    if a.phase = .onAir ∧ a.frames = a.duration then
      closeAiring z .complete a (s.1.modRotZone z fun r => { r with airing := none }, s.2)
    else s
  | none => s

/-- The airings of a record counted for composition `n`, `shown` being the airing the report names for the
zone. -/
def countAirings (n : Seq) (shown : Option Seq) (z : ZoneId) (s : State) : State :=
  s.modRotZone z fun r =>
    { r with airing := r.airing.map (Airing.countIf n shown), ending := r.ending.map (Airing.countIf n shown) }

/-- The pick of a record where one is due; otherwise the fallback of a record left without an airing whose
fallback-shown flag is clear. -/
def pickIfDue (z : ZoneId) (s : State) : State :=
  match s.rot.zones[z] with
  | some r => if pickDue s z r then pick z s else if r.airing.isNone && !r.fallbackShown then rotFallback z s else s
  | none => s

/-- The rotation step of one zone. That the ending airings close before the airing does, where one report
closes both, is the model's choice (log entry 67). -/
def rotationStepZone (n : Seq) (s : RotStep) (z : ZoneId) : RotStep :=
  match s.1.rot.zones[z] with
  | none => s
  | some _ =>
    let t := settleAiring z (settleEnding z (countAirings n ((s.1.zones[z]).current.airing.map (·.id)) z s.1, s.2))
    (pickIfDue z t.1, t.2)

/-- R150: the rotation step of a composition report; the marks it gave are then taken, so that a make-good
arrives after the whole step. -/
def rotationStep (n : Seq) (s : State) : State :=
  let r := (allFin 16).foldl (rotationStepZone n) (s, [])
  r.2.foldl (fun s m => takeMark m s) r.1

/-! ## Cue-start replacements (R59, R156) -/

/-- The replacement made current at once, for a MAIN zone also the content of its level-0 entry. -/
def replaceNow (z : ZoneId) (n : Seq) (c : Content) (s : State) : State :=
  let s := s.modRotZone z fun r => { r with fallbackShown := c.isFallback }
  let s := setCurrent z c n s
  if s.isMain z then s.modZone z fun r => { r with stack := r.stack.replace 0 c } else s

/-- One zone of R156 for a cue of contract `k` and category `cat` that entered PLAYING in composition `n`. -/
def conflictZone (n : Seq) (k : ContractId) (cat : Nat) (s : State) (z : ZoneId) : State :=
  match s.rot.zones[z], (s.zones[z]).current.airing with
  | some r, some shown =>
    if shown.contract ≠ k ∧ (s.exu.contracts[shown.contract]).category = cat then
      if r.ending.any (·.id == shown.id) then replaceNow z n (fallbackOf (s.zoneCfg z)) s
      else
        let s := pickEntry z (some k) (endAiring z .cue s)
        match s.airing z with
        | some a => replaceNow z n a.content s
        | none => replaceNow z n (fallbackOf (s.zoneCfg z)) s
    else s
  | _, _ => s

/-- R156: one pass of the Compositor. -/
def conflictPass (n : Seq) (s : State) (p : ContractId × Nat) : State :=
  if p.2 = 0 then s else (allFin 16).foldl (conflictZone n p.1 p.2) s

/-! ## Trigger events (R148) -/

/-- One trigger table entry for an event. -/
def triggerEntry (src : TriggerSource) (s : State) (i : Fin 8) : State :=
  match s.rot.triggers[i] with
  | none => s
  | some t =>
    if t.source ≠ src then s
    else match s.rot.ring.find? (·.id == t.spot) with
      | none => s
      | some spot =>
        if 8 ≤ s.rot.insert.length then notify (.triggerLost i.val t.source t.spot s.osu.seq) s
        else
          takeContract spot.contract ((takeAsset spot.asset
            { s with rot := { s.rot with insert := s.rot.insert ++ [spot.entry] } }).getD
            { s with rot := { s.rot with insert := s.rot.insert ++ [spot.entry] } })

/-- R148: a trigger event, taken in RUN. -/
def triggerEvent (src : TriggerSource) (s : State) : State :=
  if s.inRun then (allFin 8).foldl (triggerEntry src) s else s

/-! ## Requests (R144, R145, R147, R157) -/

def doAddSpot (p : List Byte) (s : State) : Answer :=
  if p.length ≠ 9 then refuse .form s
  else match index? 64 (byteAt p 1), spotClassOf (byteAt p 4), eligibilityOf (byteAt p 7) with
    | some c, some cls, some el =>
      if half p 5 = 0 then refuse .range s
      else if (s.exu.contracts[c]).state = .unused then refuse .unknown s
      else if s.rot.ring.any (·.id == byteAt p 0) then refuse .inUse s
      else if 128 ≤ s.rot.ring.length then refuse .full s
      else match takeAsset (half p 2) s with
        | none => refuse .noAsset s
        | some s =>
          let t : Spot := { id := byteAt p 0, contract := c, asset := half p 2, cls := cls, duration := half p 5,
                            elig := el, level := byteAt p 8 }
          let s := takeContract c { s with rot := { s.rot with ring := s.rot.ring ++ [t] } }
          ⟨s, .ok, .count s.rot.ring.length⟩
    | _, _, _ => refuse .range s

/-- R145: the airings of a removed ring spot cut. -/
def cutRemoved (id : Nat) (s : State) (z : ZoneId) : State :=
  match s.airing z with
  | some a => if a.source = .ring ∧ a.spot = some id then cutAiring z .removed s else s
  | none => s

def doRemoveSpot (p : List Byte) (s : State) : Answer :=
  if p.length ≠ 1 then refuse .form s
  else
    let id := byteAt p 0
    match s.rot.ring.find? (·.id == id) with
    | none => refuse .unknown s
    | some t =>
      let follow := nextSpot s.rot.ring id
      let ring := s.rot.ring.filter (·.id != id)
      let cursor := if ring.isEmpty then none else follow
      let s := giveContract t.contract (giveAsset t.asset { s with rot := { s.rot with ring := ring } })
      let s := (allFin 16).foldl (fun s z => s.modRotZone z fun r =>
        if r.cursor = some id then { r with cursor := cursor } else r) s
      let s := (allFin 16).foldl (cutRemoved id) s
      ⟨s, .ok, .count s.rot.ring.length⟩

def setTriggerAt (i : Fin 8) (t : Option Trigger) (s : State) : State :=
  { s with rot := { s.rot with triggers := upd s.rot.triggers i fun _ => t } }

def doSetTrigger (p : List Byte) (s : State) : Answer :=
  if p.length ≠ 4 then refuse .form s
  else match index? 8 (byteAt p 0), triggerOf (byteAt p 1) (byteAt p 2) with
    | some i, some src =>
      if s.rot.ring.any (·.id == byteAt p 3) then ⟨setTriggerAt i (some ⟨src, byteAt p 3⟩) s, .ok, .empty⟩
      else refuse .unknown s
    | _, _ => refuse .range s

def doClearTrigger (p : List Byte) (s : State) : Answer :=
  if p.length ≠ 1 then refuse .form s
  else match index? 8 (byteAt p 0) with
    | none => refuse .range s
    | some i => match s.rot.triggers[i] with
      | none => refuse .state s
      | some _ => ⟨setTriggerAt i none s, .ok, .empty⟩

/-- What ROTATION_STATUS reports; how many spots fit is free (the reply's layout is not given). -/
def rotationReport (start : Nat) (s : State) : RotationReport :=
  let zones := (allFin 16).filterMap fun z => (s.rot.zones[z]).map fun r => (z, r)
  let airings := (zones.map fun e => e.2.airing.toList.length + e.2.ending.length).sum
  { spots := s.rot.ring.length, startIndex := start,
    carried := (s.rot.ring.drop start).take
      (Config.spotsThatFit s.rot.makegood.length s.rot.insert.length zones.length airings),
    makegood := s.rot.makegood, insert := s.rot.insert, triggers := s.rot.triggers, zones := zones,
    nextAiring := s.rot.nextAiring }

def doRotationStatus (p : List Byte) (s : State) : Answer :=
  if p.length ≠ 1 then refuse .form s
  else if 127 < byteAt p 0 then refuse .range s
  else ⟨s, .ok, .rotationStatus (rotationReport (byteAt p 0) s)⟩

end Sys2Proof.Machine
end

