-- ==== Sys2Proof/Machine/Claims.lean ====
section
/-! DEFINITION. Claim stacks of the Zone Manager (section 3.5), with what the holders do when told, and the zone requests
SHOW, HIDE, TAKEOVER, RELEASE_TAKEOVER and ZONE_STATUS. -/

namespace Sys2Proof.Machine

/-! ## Cue records -/

def State.cue (s : State) (id : Nat) : Option Cue := s.cqs.queue.find? (·.id == id)

def modCue (id : Nat) (f : Cue → Cue) (s : State) : State :=
  { s with cqs := { s.cqs with queue := s.cqs.queue.map fun q => if q.id == id then f q else q } }

/-- R121: the CUE_STATE notice of a cue record. -/
def cueNotice (q : Cue) (cause : Option AbortCause) (s : State) : State :=
  notify (.cueState q.id q.zone q.state cause q.position (s.heldCount q.id) q.attribution q.dropped s.osu.seq) s

/-- A cue's record changed and its notice sent. -/
def changeCue (id : Nat) (f : Cue → Cue) (s : State) : State :=
  let s := modCue id f s
  match s.cue id with
  | some q => cueNotice q none s
  | none => s

/-- The active cue of a zone's lane. -/
def State.activeCue (s : State) (z : ZoneId) : Option Cue := (s.cqs.lanes[z]).bind s.cue

/-- R117: the level-1 entry of a zone has lost the top. -/
def suspendCue (z : ZoneId) (s : State) : State :=
  match s.activeCue z with
  | some q =>
    if q.state = .playing ∨ q.state = .frozen then changeCue q.id (fun q => { q with state := .suspended, freeze := 0 }) s
    else s
  | none => s

/-- R117: the level-1 entry's content of a zone is on air. -/
def resumeCue (z : ZoneId) (s : State) : State :=
  match s.activeCue z with
  | some q => if q.state = .suspended then changeCue q.id (fun q => { q with state := .playing }) s else s
  | none => s

/-! ## Changes of top (R44, R45) -/

/-- The holder of an entry that lost the top acts on it (R45). -/
def tellLost (z : ZoneId) (level : Nat) (s : State) : State :=
  match level with
  | 0 => cutAiring z .topLost s
  | 1 => suspendCue z s
  | _ => s

/-- R44: a change of top, `old` being the stack before it. -/
def changeOfTop (z : ZoneId) (cause : ClaimCause) (old : ClaimStack) (s : State) : State :=
  let k := (s.zones[z]).stack
  let s := writePending z (if 0 < (s.zoneCfg z).gap then .gap else k.topContent) s
  let s := notify (.claimChange z cause old.top old.topHolder k.top k.topHolder s.osu.seq) s
  if (k.holder old.top).isSome then tellLost z old.top s else s

/-- R42: a claim; the status, and whether the entry is now the top. -/
def claim (z : ZoneId) (level : Nat) (h : Holder) (c : Content) (s : State) : State × Status × Bool :=
  let old := (s.zones[z]).stack
  if s.isMain z = false ∨ level < 1 ∨ 3 < level then (s, .range, false)
  else match old.holder level with
    | none =>
      let s := s.modZone z fun r => { r with stack := r.stack.put level h c }
      let s := if old.top < level then changeOfTop z .claim old s else s
      (s, .ok, (s.zones[z]).stack.top == level)
    | some g =>
      if g = h then (writeEntry z level c s, .ok, old.top == level) else (s, .held, false)

/-- R43, and with `linkEnd` the release made at link end (R48). The release of an entry that a claim of
R47's last row has just put below the top sends no notice, which is the model's choice (log entry 65). -/
def release (z : ZoneId) (level : Nat) (h : Holder) (linkEnd : Bool) (s : State) : State × Status :=
  let old := (s.zones[z]).stack
  if s.isMain z = false ∨ level < 1 ∨ 3 < level then (s, .range)
  else if old.holder level ≠ some h then (s, .state)
  else
    let cause := if linkEnd then ClaimCause.linkEnd else ClaimCause.release
    let s := s.modZone z fun r => { r with stack := r.stack.remove level }
    if old.top = level then (changeOfTop z cause old s, .ok)
    else if linkEnd then
      (notify (.claimChange z cause old.top old.topHolder old.top old.topHolder s.osu.seq) s, .ok)
    else (s, .ok)

/-- R48: ZM removes every entry an ended link holds. -/
def removeClaims (l : Link) (s : State) : State :=
  (allFin 16).foldl (fun s z =>
    (release z 2 (.link l) true (release z 1 (.link l) true s).1).1) s

/-! ## Requests (R40, R51, R99) -/

/-- The zone of a request of one zone number. -/
def namedZone (p : List Byte) : Except Status ZoneId :=
  if p.length ≠ 1 then .error .form
  else match index? 16 (byteAt p 0) with
    | none => .error .range
    | some z => .ok z

def isCounterZone (c : ZoneClass) : Bool := c == .clock || c == .score

def doShow (p : List Byte) (s : State) : Answer :=
  match namedZone p with
  | .error e => refuse e s
  | .ok z =>
    if !isCounterZone (s.zoneCfg z).cls then refuse .range s
    else
      let s := s.modZone z fun r => { r with recorded := true }
      ⟨writePending z (if (s.zoneCfg z).cls = .clock then .clock else .score) s, .ok, .empty⟩

def doHide (p : List Byte) (s : State) : Answer :=
  match namedZone p with
  | .error e => refuse e s
  | .ok z =>
    if !isCounterZone (s.zoneCfg z).cls then refuse .range s
    else ⟨s.modZone z fun r => { r with recorded := false }, .ok, .empty⟩

def doTakeover (l : Link) (p : List Byte) (s : State) : Answer :=
  match namedZone p with
  | .error e => refuse e s
  | .ok z =>
    let r := claim z 2 (.link l) .clock s
    if r.2.1 = .ok then ⟨r.1, .ok, .top r.2.2⟩ else refuse r.2.1 s

def doReleaseTakeover (l : Link) (p : List Byte) (s : State) : Answer :=
  match namedZone p with
  | .error e => refuse e s
  | .ok z =>
    let r := release z 2 (.link l) false s
    if r.2 = .ok then ⟨r.1, .ok, .empty⟩ else refuse r.2 s

/-- R35: the layer of a class. -/
def layerOf (m : ClassMap) : ZoneClass → Nat
  | .main => m.main
  | .sponsor => m.sponsor
  | .message => m.message
  | .clock => m.clock
  | .score => m.score
  | .emergency => 7

def zoneReport (z : ZoneId) (s : State) : ZoneReport :=
  let g := s.zoneCfg z
  let r := s.zones[z]
  { cls := g.cls, layer := layerOf s.cfl.image.classMap g.cls, rectangle := (g.col, g.row, g.width, g.height),
    gap := g.gap, leaderOf := (s.leaderOf z).map (·.val), followerOf := (s.followerOf z).map (·.val), shown := r.shown,
    current := r.current, level := requestedLevel g r.current, start := r.start, pending := r.pending.map Content.kind, gapLeft := r.gapLeft,
    stack := if s.isMain z then
        [0, 1, 2, 3].map fun i => match r.stack.holder i, r.stack.content i with
          | some h, some c => some (h, c.kind)
          | _, _ => none
      else []
    top := if s.isMain z then some r.stack.top else none }

def doZoneStatus (p : List Byte) (s : State) : Answer :=
  match namedZone p with
  | .error e => refuse e s
  | .ok z => ⟨s, .ok, .zoneStatus (zoneReport z s)⟩

end Sys2Proof.Machine
end

