-- ==== Sys2Proof/Machine/Cues.lean ====
section
/-! DEFINITION. The Cue Sequencer (section 7): the stream and its credits, frame arrival, cue requests, queries, taken
reports and the ends of cues. -/

namespace Sys2Proof.Machine

/-! ## The stream (R105, R107) -/

/-- The stream goes to UP: a reset mark, then one grant for each FREE slot. -/
def streamUp (s : State) : State :=
  let free := 120 - s.cqs.slots.length
  { s with cqs := { s.cqs with streamUp := true, credits := free,
                               lane := s.cqs.lane ++ .resetMark :: List.replicate free .grant } }

def streamDown (s : State) : State := { s with cqs := { s.cqs with streamUp := false, credits := 0 } }

/-! ## The end of a cue (R116) -/

/-- The slot numbers a cue holds. -/
def State.slotsOf (s : State) (cue : Nat) : List Nat := (s.cqs.slots.filter fun e => e.2.cue == cue).map (·.1)

/-- The closing mark of a cue, when it has been PLAYING, holds its attribution and was listed. -/
def Cue.closingMark (q : Cue) : Option Mark :=
  match q.attribution, q.firstListed, q.lastListed with
  | some c, some f, some l =>
    if 0 < q.listed then
      some { key := .cue q.id c, contract := c, zone := q.zone, area := 0, source := .cue, first := f, last := l,
             duration := 0, frames := q.listed, outcome := .attribution, asset := 0, level := 0 }
    else none
  | _, _, _ => none

/-- Steps 1 to 4 of R116; step 2 only for an active cue (R118). The final notice still carries the attribution whose
reference step 3 gave back (log entry 57). -/
def dropCue (q : Cue) (state : CueState) (cause : Option AbortCause) (mark : Bool) (s : State) : State :=
  let s := (s.slotsOf q.id).foldl (fun s i => freeSlot i s) s
  let s := match q.closingMark with
    | some m => if mark then takeMark m s else s
    | none => s
  let s := match q.attribution with
    | some c => giveContract c s
    | none => s
  let s := cueNotice { q with state := state } cause s
  { s with cqs := { s.cqs with queue := s.cqs.queue.filter (·.id != q.id) } }

def setLane (z : ZoneId) (v : Option Nat) (s : State) : State :=
  { s with cqs := { s.cqs with lanes := upd s.cqs.lanes z fun _ => v } }

/-- The release of level 1 and the lane made IDLE. -/
def releaseLane (z : ZoneId) (linkEnd : Bool) (s : State) : State :=
  setLane z none (match s.owner with
    | some l => (release z 1 (.link l) linkEnd s).1
    | none => s)

/-- The oldest QUEUED cue that targets a zone. -/
def State.nextCue (s : State) (z : ZoneId) : Option Cue :=
  s.cqs.queue.find? fun q => q.zone == z && q.state == .queued

/-- The ends after which the next cue of the zone starts (R116, step 5). -/
def AbortCause.startsNext : Option AbortCause → Bool
  | some .flush => false
  | some .linkEnd => false
  | _ => true

/-- Step 5 of R116 for the lane of a zone. -/
def nextOnLane (z : ZoneId) (cause : Option AbortCause) (s : State) : State :=
  match if AbortCause.startsNext cause then s.nextCue z else none with
  | some q =>
    let s := changeCue q.id (fun q => { q with state := .preroll }) (setLane z (some q.id) s)
    writeEntry z 1 (.clip q.id q.level) s
  | none => releaseLane z (cause == some .linkEnd) s

/-- R116 for an active cue: DONE without a cause, ABORTED with one. -/
def endCue (q : Cue) (cause : Option AbortCause) (s : State) : State :=
  nextOnLane q.zone cause (dropCue q (if cause.isSome then .aborted else .done) cause true s)

/-- Whether a cue is the active cue of its zone's lane. -/
def State.isActive (s : State) (q : Cue) : Bool := s.cqs.lanes[q.zone] == some q.id

/-- One cue ended with cause FLUSH or LINK_END, active or QUEUED. -/
def abortCue (cause : AbortCause) (s : State) (q : Cue) : State :=
  if s.isActive q then endCue q (some cause) s else dropCue q .aborted (some cause) false s

/-- R119, R120: every cue ended, in queue order. -/
def abortAll (cause : AbortCause) (s : State) : State := s.cqs.queue.foldl (abortCue cause) s

/-- R120: the stream-owner link has ended. -/
def ownerLinkEnd (s : State) : State := abortAll .linkEnd (streamDown s)

/-! ## Frame arrival (R108, R109) -/

/-- The largest of a figure over the MAIN zones. -/
def State.mainLargest (s : State) (f : ZoneCfg → Nat) : Nat :=
  (allFin 16).foldl (fun m z => if s.isMain z then max m (f (s.zoneCfg z)) else m) 0

/-- A frame discarded before or after its credit was used: the credit count is as before the arrival. -/
def discardFrame (s : State) : State := { s with cqs := { s.cqs with discards := bump 65535 s.cqs.discards } }

/-- A frame discarded after using a credit, which is granted again. -/
def discardGranted (s : State) : State :=
  discardFrame { s with cqs := { s.cqs with lane := s.cqs.lane ++ [.grant] } }

/-- The load figure of pixel data (R108); free for no pixels. -/
def loadFigure (data : List Byte) : Nat :=
  if data.length = 0 then Config.loadOfNoPixels.toNat else byteSum data / data.length

/-- R109: whether a frame belongs to a cue that is filling. -/
def Cue.wants (q : Cue) (clip frame : Nat) : Bool :=
  q.clip == clip && q.first ≤ frame && frame < q.first + q.count && q.expected < q.first + q.count

/-- A matched frame stored in a FREE slot, and the return of a FROZEN cue it was needed by (R115). -/
def storeFrame (f : ClipFrame) (q : Cue) (s : State) : State :=
  match lowestFree 120 0 s.cqs.slots with
  | none => s
  | some i =>
    let sl : Slot := { cue := q.id, clip := f.clip, frame := f.frame, width := f.width, height := f.height,
                       load := loadFigure f.data, data := f.data, readMark := false, freeHeld := false }
    let s := { s with cqs := { s.cqs with slots := putEntry i sl s.cqs.slots, credits := s.cqs.credits - 1 } }
    let s := modCue q.id (fun q => { q with expected := f.frame + 1 }) s
    if q.state = .frozen ∧ f.frame = q.first + q.position then
      changeCue q.id (fun q => { q with state := .playing, freeze := 0 }) s
    else s

/-- Whether CQS takes frames: in POWER_UP it stands at its cold-start values, and in SAFE none arrives that it counts
(R123, log entry 27). -/
def State.takesFrames (s : State) : Bool := s.cfl.startup != .powerUp && s.cfl.startup != .safe

def execClipFrameArrival (f : ClipFrame) (s : State) : Host.Outcome State Fault Refusal :=
  if s.takesFrames = false then .next s
  else if s.cqs.streamUp = false then .next (discardFrame s)
  else if s.cqs.credits = 0 then .next { s with cqs := { s.cqs with violation := true } }
  else if s.mainLargest (·.width) < f.width ∨ s.mainLargest (·.height) < f.height ∨
      f.data.length ≠ f.width * f.height * 3072 ∨ !(allFin 16).any s.isMain then .next (discardGranted s)
  else match s.cqs.queue.find? fun q => q.wants f.clip f.frame with
    | none => .next (discardGranted s)
    | some q => if f.frame < q.expected then .next (discardGranted s) else .next (storeFrame f q s)

/-! ## Queries (R113 to R115) -/

/-- The slot of a cue that holds a frame number. -/
def State.slotWith (s : State) (cue frame : Nat) : Option Nat :=
  (s.cqs.slots.find? fun e => e.2.cue == cue && e.2.frame == frame).map (·.1)

/-- The listing of a cue whose attribution is held, at composition `n`. -/
def Cue.list (n : Seq) (q : Cue) : Cue :=
  if q.attribution.isSome then { q with lastListed := some n, listed := bump 4294967295 q.listed } else q

/-- R115: a FROZEN query of an active cue; `q` has the freeze count already increased. -/
def frozenQuery (n : Seq) (q : Cue) (entered : Bool) (s : State) : State × ClipAnswer :=
  if s.cfl.image.linkTable.freezeLimit ≤ q.freeze then
    (endCue q (some .freeze) s, { slot := none, state := some .aborted, attribution := none, entered := entered })
  else
    (modCue q.id (Cue.list n) s, { slot := none, state := some .frozen, attribution := q.attribution, entered := entered })

/-- R114: a query for a PLAYING cue. -/
def playingQuery (n : Seq) (q : Cue) (entered : Bool) (s : State) : State × ClipAnswer :=
  match s.slotWith q.id (q.first + q.position) with
  | some i =>
    let s := match s.slot i with
      | some sl => { s with cqs := { s.cqs with slots := putEntry i { sl with readMark := true } s.cqs.slots } }
      | none => s
    (modCue q.id (Cue.list n) s,
      { slot := some i, state := some .playing, attribution := q.attribution, entered := entered })
  | none =>
    let s := changeCue q.id (fun q => { q with state := .frozen, freeze := 1 }) s
    frozenQuery n { q with state := .frozen, freeze := 1 } entered s

/-- R113: whether the active cue of another lane holds an attribution that conflicts with contract `c`. -/
def laneConflict (s : State) (z : ZoneId) (c : ContractId) : Bool :=
  (s.exu.contracts[c]).category != 0 &&
    (allFin 16).any fun y => y != z && (match s.activeCue y with
      | some o => (match o.attributed with
        | some k => rivals s c k
        | none => false)
      | none => false)

/-- R113: a ready cue enters PLAYING, giving up an attribution that conflicts with the other lane. -/
def enterPlaying (n : Seq) (q : Cue) (s : State) : State × Cue :=
  let drops := match q.attribution with
    | some c => laneConflict s q.zone c
    | none => false
  let q' : Cue := { q with state := .playing, freeze := 0, firstListed := some n,
                           attribution := if drops then none else q.attribution, dropped := q.dropped || drops }
  let s := match q.attribution with
    | some c => if drops then giveContract c s else s
    | none => s
  (changeCue q.id (fun _ => q') s, q')

/-- Whether a PREROLL cue is ready (R113). -/
def State.cueReady (s : State) (q : Cue) : Bool := min q.count s.cfl.image.linkTable.preroll ≤ s.heldCount q.id

/-- R113: the query of a zone whose content names a cue. -/
def cueQuery (n : Seq) (z : ZoneId) (cue : Nat) (s : State) : State × ClipAnswer :=
  let hold := fun (st : Option CueState) => ({ slot := none, state := st, attribution := none, entered := false } : ClipAnswer)
  match s.cue cue with
  | none => (s, hold none)
  | some q =>
    if s.cqs.lanes[z] ≠ some cue then (s, hold (some q.state))
    else match q.state with
      | .suspended => (s, { hold (some .suspended) with attribution := q.attribution })
      | .preroll =>
        if s.cueReady q then
          let r := enterPlaying n q s
          playingQuery n r.2 true r.1
        else (s, { hold (some .preroll) with attribution := q.attribution })
      | .playing => playingQuery n q false s
      | .frozen => frozenQuery n { q with freeze := q.freeze + 1 } false
          (modCue cue (fun q => { q with freeze := q.freeze + 1 }) s)
      | st => (s, hold (some st))

/-! ## Taken reports (R114) -/

/-- The read mark of a slot cleared, and a free held back by it performed. -/
def clearReadMark (i : Nat) (s : State) : State :=
  match s.slot i with
  | none => s
  | some sl =>
    if sl.freeHeld then vacate i s
    else { s with cqs := { s.cqs with slots := putEntry i { sl with readMark := false } s.cqs.slots } }

/-- The showing of an active PLAYING cue counted. That a cue that is DONE carries its frame count as position is the
model's choice (log entry 71). -/
def advanceCue (q : Cue) (slot : Nat) (s : State) : State :=
  if q.repeats + 1 < q.rate then modCue q.id (fun q => { q with repeats := q.repeats + 1 }) s
  else
    let s := if q.loop then s else freeSlot slot s
    if q.position + 1 < q.count then
      modCue q.id (fun q => { q with repeats := 0, position := q.position + 1 }) s
    else if q.loop then modCue q.id (fun q => { q with repeats := 0, position := 0 }) s
    else endCue { q with repeats := 0, position := q.position + 1 } none s

/-- The cue a taken report advances: still the active cue of the zone, in PLAYING. -/
def reportedCue (s : State) (t : TakenReport) : Option Cue :=
  match s.activeCue t.zone with
  | some q => if q.id = t.cue ∧ q.state = .playing then some q else none
  | none => none

/-- R114: the taken report of a zone. -/
def takenReport (t : TakenReport) (s : State) : State :=
  let s := clearReadMark t.slot { s with cmp := { s.cmp with taken := s.cmp.taken.filter (· != t) } }
  match reportedCue s t with
  | some q => advanceCue q t.slot s
  | none => s

def State.taken (s : State) (z : ZoneId) : Option TakenReport := s.cmp.taken.find? (·.zone == z)

def execClipTakenReport (z : ZoneId) (s : State) : Host.Outcome State Fault Refusal :=
  match s.taken z with
  | some t => .next (takenReport t s)
  | none => .next s

/-- A case of the taken report: it happens when the report under way meets the condition. -/
def takenWhen (z : ZoneId) (due : Cue → Bool) (s : State) : Host.Outcome State Fault Refusal :=
  match s.taken z with
  | some t => match reportedCue s t with
    | some q => if due q then .next (takenReport t s) else .next s
    | none => .next s
  | none => .next s

/-- The repeat count reaches the rate divisor. -/
def Cue.repeatEnds (q : Cue) : Bool := q.rate ≤ q.repeats + 1

/-- The position reaches the frame count of a cue that does not loop. -/
def Cue.finishes (q : Cue) : Bool := q.repeatEnds && !q.loop && q.count ≤ q.position + 1

def execFrameRepeatEnd (z : ZoneId) (s : State) : Host.Outcome State Fault Refusal := takenWhen z Cue.repeatEnds s

def execCueDone (z : ZoneId) (s : State) : Host.Outcome State Fault Refusal := takenWhen z Cue.finishes s

/-! ## Requests (R111, R112, R118, R119, R122) -/

/-- The attribution of a QUEUE_CUE payload: 255 is none; 64 to 254 is a contract above 63. -/
def attributionOf (v : Nat) : Except Status (Option ContractId) :=
  if v = 255 then .ok none
  else match index? 64 v with
    | some c => .ok (some c)
    | none => .error .range

/-- Check 2 of R111 on the fields but the zone and the attribution. -/
def cueFieldsOk (first count rate : Nat) (loop : Bool) : Bool :=
  1 ≤ count && first + count - 1 ≤ 65535 && 1 ≤ rate && rate ≤ 8 && !(loop && 120 < count)

def doQueueCue (p : List Byte) (s : State) : Answer :=
  if p.length ≠ 12 then refuse .form s
  else
    let loop := byteAt p 8 != 0
    match index? 16 (byteAt p 9), attributionOf (byteAt p 11) with
    | some z, .ok att =>
      if !cueFieldsOk (half p 3) (half p 5) (byteAt p 7) loop ∨ !s.isMain z then refuse .range s
      else if att.any fun c => (s.exu.contracts[c]).state == .unused then refuse .unknown s
      else if (s.cue (byteAt p 0)).isSome then refuse .inUse s
      else if 8 ≤ s.cqs.queue.length then refuse .full s
      else
        let q : Cue := { id := byteAt p 0, clip := half p 1, first := half p 3, count := half p 5, rate := byteAt p 7,
                         loop := loop, zone := z, level := byteAt p 10, attribution := att, dropped := false,
                         state := .queued, position := 0, repeats := 0, freeze := 0, expected := half p 3,
                         firstListed := none, lastListed := none, listed := 0 }
        let s := { s with cqs := { s.cqs with queue := s.cqs.queue ++ [q] } }
        let s := match att with
          | some c => takeContract c s
          | none => s
        ⟨s, .ok, .count s.cqs.queue.length⟩
    | _, _ => refuse .range s

def doPlay (p : List Byte) (s : State) : Answer :=
  match namedZone p with
  | .error e => refuse e s
  | .ok z =>
    if !s.isMain z then refuse .range s
    else if s.cqs.streamUp = false ∨ (s.cqs.lanes[z]).isSome then refuse .state s
    else match s.nextCue z, s.owner with
      | some q, some l =>
        let r := claim z 1 (.link l) (.clip q.id q.level) s
        if r.2.1 = .ok then
          ⟨changeCue q.id (fun q => { q with state := .preroll }) (setLane z (some q.id) r.1), .ok, .played q.id r.2.2⟩
        else refuse r.2.1 s
      | _, _ => refuse .state s

def doStopCue (p : List Byte) (s : State) : Answer :=
  if p.length ≠ 1 then refuse .form s
  else match s.cue (byteAt p 0) with
    | none => refuse .unknown s
    | some q => ⟨abortCue .stop s q, .ok, .empty⟩

def doFlush (p : List Byte) (s : State) : Answer :=
  if p.length ≠ 0 then refuse .form s else ⟨abortAll .flush s, .ok, .count s.cqs.queue.length⟩

def cueReport (s : State) : CueReport :=
  let t := s.cfl.image.linkTable
  { streamUp := s.cqs.streamUp, owner := t.streamOwner, preroll := t.preroll, freezeLimit := t.freezeLimit,
    credits := s.cqs.credits, freeSlots := 120 - s.cqs.slots.length, fullSlots := s.cqs.slots.length,
    violation := s.cqs.violation, discards := s.cqs.discards,
    lanes := ((allFin 16).filter s.isMain).map fun z => (z, s.cqs.lanes[z]),
    cues := s.cqs.queue.map fun q => (q, s.heldCount q.id) }

def doCueStatus (l : Link) (p : List Byte) (s : State) : Answer :=
  if p.length ≠ 0 then refuse .form s
  else
    ⟨if s.owner = some l then { s with cqs := { s.cqs with violation := false } } else s, .ok, .cueStatus (cueReport s)⟩

end Sys2Proof.Machine
end

