-- ==== Sys2Proof/Machine/Messages.lean ====
section
/-! DEFINITION. The Message Engine (section 8): the queue and the display, the emergency state, and the Message
requests. -/

namespace Sys2Proof.Machine

/-! ## Placings and departures (R125, R128) -/

/-- Behind every queued message of its class. -/
def placeBehind (m : Message) (q : List Message) : List Message :=
  q.takeWhile (fun x => m.cls.rank ≤ x.cls.rank) ++ m :: q.dropWhile fun x => m.cls.rank ≤ x.cls.rank

/-- Ahead of every queued message of its class. -/
def placeAhead (m : Message) (q : List Message) : List Message :=
  q.takeWhile (fun x => m.cls.rank < x.cls.rank) ++ m :: q.dropWhile fun x => m.cls.rank < x.cls.rank

def setQueue (q : List Message) (s : State) : State := { s with mse := { s.mse with queue := q } }

def setDisplay (d : Option Display) (s : State) : State := { s with mse := { s.mse with display := d } }

/-- R137: the notice of a message. -/
def messageNotice (m : Message) (c : MessageChange) (s : State) : State :=
  notify (.message m.id m.source m.cls c m.repeats s.osu.seq) s

/-- A message that leaves the part. -/
def messageLeaves (m : Message) (c : MessageChange) (s : State) : State := messageNotice m c (giveAsset m.asset s)

/-- A return without using a repeat; a message with its expired mark goes to EXPIRED instead. -/
def returnAhead (m : Message) (c : MessageChange) (s : State) : State :=
  if m.expired then messageLeaves m .expired s else messageNotice m c (setQueue (placeAhead m s.mse.queue) s)

/-- R125: eligibility at this moment. -/
def Message.eligible (m : Message) (s : State) : Bool := !m.whenStopped || !s.gameRunning

def State.firstEligible (s : State) : Option Message := s.mse.queue.find? (·.eligible s)

/-- R127, R128: counting, and the three ways off the display. -/
def countDisplay (s : State) : State :=
  match s.mse.display with
  | none => s
  | some d =>
    let left := d.framesLeft - 1
    let m := d.message
    if left = 0 then
      let m' := { m with repeats := m.repeats - 1 }
      let s := setDisplay none s
      if m'.repeats = 0 then messageLeaves m' .doneComplete s
      else if m.expired then messageLeaves m' .expired s
      else messageNotice m' .queuedRepeat (setQueue (placeBehind m' s.mse.queue) s)
    else if m.whenStopped && s.gameRunning then returnAhead m .queuedGameRunning (setDisplay none s)
    else if s.firstEligible.any fun x => decide (m.cls.rank < x.cls.rank) then
      returnAhead m .queuedPreempted (setDisplay none s)
    else setDisplay (some { d with framesLeft := left }) s

/-- The MESSAGE zones, by number. -/
def State.messageZones (s : State) : List ZoneId := (allFin 16).filter fun z => (s.zoneCfg z).cls == .message

/-- R129: the take-on of the first eligible message, or the fallback; with whether a message was taken on. The zone mark
tells only whether a message was written last (log entry 58). -/
def takeOn (s : State) : State × Bool :=
  match s.mse.display with
  | some _ => (s, false)
  | none =>
    match s.firstEligible with
    | some m =>
      let s := setQueue (s.mse.queue.filter fun x => !(x.id == m.id && x.source == m.source)) s
      let s := messageNotice m .onAir (setDisplay (some { message := m, framesLeft := m.duration }) s)
      let s := s.messageZones.foldl (fun s z => writePending z (.message m.asset m.id m.source m.level) s) s
      ({ s with mse := { s.mse with markMessage := true } }, true)
    | none =>
      if s.mse.markMessage then
        let s := s.messageZones.foldl (fun s z => writePending z (fallbackOf (s.zoneCfg z)) s) s
        ({ s with mse := { s.mse with markMessage := false } }, false)
      else (s, false)

/-- Whether MSE holds level 3 of the alert zone. -/
def State.holdsAlert (s : State) : Bool :=
  match s.alertZone with
  | some z => (s.zones[z]).stack.alert.isSome
  | none => false

/-- Level 3 of the alert zone released by MSE. -/
def releaseAlert (s : State) : State :=
  match s.alertZone with
  | some z => (release z 3 .messageEngine false s).1
  | none => s

/-- R130: level 3 brought into line with the display. -/
def alignAlert (justTaken : Bool) (s : State) : State :=
  match s.alertZone with
  | none => s
  | some z => match s.mse.display with
    | some d =>
      if d.message.cls = .alert then
        if justTaken || !s.holdsAlert then
          (claim z 3 .messageEngine (.alert d.message.asset d.message.id d.message.source d.message.level) s).1
        else s
      else if s.holdsAlert then releaseAlert s else s
    | none => if s.holdsAlert then releaseAlert s else s

/-- R127 to R130: the display step of a composition report; not run while an emergency stands (R136). -/
def displayStep (s : State) : State :=
  if s.mse.emergency ≠ .none then s
  else
    let r := takeOn (countDisplay s)
    alignAlert r.2 r.1

/-! ## The emergency state (R133 to R136) -/

/-- The evacuation asset of an emergency state; outside RUN there is no alarm asset (R138). -/
def State.evacAsset (s : State) : Emergency → Option Nat
  | .none => Option.none
  | .linkEvac a => some a
  | _ => if s.inRun then some s.cfl.image.alarm.asset else Option.none

/-- An emergency state entered, with its notice (R137). -/
def setEmergency (e : Emergency) (c : EmergencyCause) (s : State) : State :=
  notify (.emergency e (s.evacAsset e) c s.osu.seq) { s with mse := { s.mse with emergency := e } }

/-- R136: what MSE does when the state leaves NONE. -/
def leaveNone (s : State) : State :=
  let s := match s.mse.display with
    | some d => returnAhead d.message .queuedEmergency (setDisplay none s)
    | none => s
  cutAndHold (releaseAlert s)

/-- R134: an accepted change of the alarm line. -/
def alarmAccepted (asserted : Bool) (s : State) : State :=
  match s.mse.emergency, asserted with
  | .none, true => leaveNone (setEmergency .alarmEvac .alarmAsserted s)
  | .linkEvac a, true => giveAsset a (setEmergency .alarmEvac .alarmAsserted s)
  | .alarmHeld, true => setEmergency .alarmEvac .alarmAsserted s
  | .alarmEvac, false => setEmergency .alarmHeld .alarmNegated s
  | _, _ => s

/-- The alarm line at a tick (R134). -/
def sampleAlarm (line : Bool) (s : State) : State :=
  let r := filterLine s.mse.alarmFilter s.mse.alarmLevel s.mse.alarmRun line
  let s := { s with mse := { s.mse with alarmLevel := r.1, alarmRun := r.2.1 } }
  if r.2.2 then alarmAccepted line s else s

/-! ## Expiry (R131) -/

/-- A message with one millisecond of its expiry counted, and whether it expired at this tick. -/
def Message.tick (m : Message) : Message × Bool :=
  match m.expiry with
  | some e => if 0 < e then ({ m with expiry := some (e - 1) }, e == 1) else (m, false)
  | none => (m, false)

/-- R131: one tick of every held message; of several that expire at one tick the queue's order gives the notices' order
(log entry 20). -/
def countExpiries (s : State) : State :=
  let s := match s.mse.display with
    | some d =>
      let t := d.message.tick
      setDisplay (some { d with message := { t.1 with expired := t.1.expired || t.2 } }) s
    | none => s
  let gone := s.mse.queue.filter (·.tick.2)
  let s := setQueue ((s.mse.queue.filter fun m => !m.tick.2).map (·.tick.1)) s
  gone.foldl (fun s m => messageLeaves m.tick.1 .expired s) s

/-! ## Requests -/

/-- Check 2 of R126. -/
def postFieldsOk (p : List Byte) : Bool :=
  byteAt p 2 ≤ 3 && half p 6 != 0 && byteAt p 9 ≤ 1 && half p 10 ≤ 3600

def State.held (s : State) : Nat := s.mse.queue.length + s.mse.display.toList.length

/-- Whether the payload is a well-sized EVACUATE. -/
def isEvacuate (p : List Byte) : Bool := p.length == 12 && byteAt p 2 == 3

/-- Whether a link holds a message of an id, queued or on display. -/
def State.hasMessage (s : State) (id : Nat) (l : Link) : Bool :=
  (s.mse.queue ++ s.mse.display.toList.map (·.message)).any fun m => m.id == id && m.source == l

def doPostMessage (l : Link) (p : List Byte) (s : State) : Answer :=
  if p.length ≠ 12 then refuse .form s
  else match messageClassOf (byteAt p 2) with
    | none => refuse .range s
    | some cls =>
      if !postFieldsOk p then refuse .range s
      else if s.hasMessage (half p 0) l then refuse .inUse s
      else if 32 ≤ s.held then refuse .full s
      else match takeAsset (half p 3) s with
        | none => refuse .noAsset s
        | some s =>
          let m : Message :=
            { id := half p 0, source := l, cls := cls, asset := half p 3, level := byteAt p 5, duration := half p 6,
              repeats := clamp 1 15 (byteAt p 8), whenStopped := byteAt p 9 == 1,
              expiry := if half p 10 = 0 then none else some (half p 10 * 1000), expired := false }
          let s := setQueue (placeBehind m s.mse.queue) s
          ⟨s, .ok, .count s.held⟩

/-- R133, the state being NONE or LINK_EVAC. -/
def evacuate (asset : Nat) (s : State) : Answer :=
  match takeAsset asset s with
  | none => refuse .noAsset s
  | some s =>
    match s.mse.emergency with
    | .linkEvac old => ⟨giveAsset old (setEmergency (.linkEvac asset) .post s), .ok, .empty⟩
    | _ => ⟨leaveNone (setEmergency (.linkEvac asset) .post s), .ok, .empty⟩

def doPostEvacuate (p : List Byte) (s : State) : Answer :=
  if !postFieldsOk p then refuse .range s
  else match s.mse.emergency with
    | .alarmEvac => refuse .state s
    | .alarmHeld => refuse .state s
    | _ => evacuate (half p 3) s

/-- The message on display, when it is the one named. -/
def State.displayed (s : State) (id : Nat) (l : Link) : Option Message :=
  s.mse.display.bind fun d => if d.message.id = id ∧ d.message.source = l then some d.message else none

/-- R132; the MSG_STATE notice goes before the CLAIM_CHANGE of a level 3 released (log entry 59). -/
def doCancelMessage (l : Link) (p : List Byte) (s : State) : Answer :=
  if p.length ≠ 2 then refuse .form s
  else
    let mine := fun (m : Message) => m.id == half p 0 && m.source == l
    match s.mse.queue.find? mine with
    | some m => ⟨messageLeaves m .doneCancelled (setQueue (s.mse.queue.filter fun x => !mine x) s), .ok, .empty⟩
    | none => match s.displayed (half p 0) l with
      | some m =>
        let s := messageLeaves m .doneCancelled (setDisplay none s)
        ⟨if m.cls = .alert then releaseAlert s else s, .ok, .empty⟩
      | none => refuse .unknown s

def doClearEvacuate (p : List Byte) (s : State) : Answer :=
  if p.length ≠ 0 then refuse .form s
  else match s.mse.emergency with
    | .linkEvac a => ⟨endHold (setEmergency .none .clear (giveAsset a s)), .ok, .empty⟩
    | .alarmHeld => ⟨endHold (setEmergency .none .clear s), .ok, .empty⟩
    | _ => refuse .state s

def messageReport (s : State) : MessageReport :=
  { emergency := s.mse.emergency, evacuation := s.evacAsset s.mse.emergency, alarmAsset := s.cfl.image.alarm.asset,
    alarmLevel := s.mse.alarmLevel, alarmFilter := s.mse.alarmFilter, display := s.mse.display,
    markMessage := s.mse.markMessage, holdsAlert := s.holdsAlert, queue := s.mse.queue, held := s.held }

def doMessageStatus (p : List Byte) (s : State) : Answer :=
  if p.length ≠ 0 then refuse .form s else ⟨s, .ok, .messageStatus (messageReport s)⟩

end Sys2Proof.Machine
end

