-- ==== Sys2Proof/Machine/Clocks.lean ====
section
/-! DEFINITION. The Clock and Score Unit (section 6): counting, warnings and expiries, the horn, the stop line, display
strings, the score, the clock requests, and the millisecond tick of the whole part (R83). -/

namespace Sys2Proof.Machine

/-! ## Display strings (R98) -/

/-- A number in decimal without leading zeros, for numbers below 1,000,000. -/
def decimal (n : Nat) : List Glyph :=
  let digits := [n / 100000 % 10, n / 10000 % 10, n / 1000 % 10, n / 100 % 10, n / 10 % 10]
  (digits.dropWhile (· == 0) ++ [n % 10]).map .digit

/-- A clock's string. -/
def clockString (c : ClockRec) : DisplayString :=
  let part := fun (u : Nat) => match c.dir with
    | .down => ceilDiv c.value u
    | .up => c.value / u
  if 600 ≤ part 100 then
    let t := part 1000
    decimal (t / 60) ++ [.colon, .digit (t % 60 / 10), .digit (t % 10)]
  else decimal (part 100 / 10) ++ [.stop, .digit (part 100 % 10)]

/-- A counter right-aligned in a field of 3 characters. -/
def scoreField (v : Nat) : DisplayString :=
  let d := decimal v
  List.replicate (3 - d.length) .space ++ d

/-- A SCORE zone's string from the values of its counters. -/
def scoreString : List Nat → DisplayString
  | [] => []
  | [v] => scoreField v
  | v :: l => scoreField v ++ .space :: scoreString l

/-- The clock of a source number; GAME for a number that is none. -/
def clockOf (n : Nat) : ClockId := (index? 3 n).getD 0

/-- The string the Compositor reads for a zone whose content is CLOCK or SCORE (R60). -/
def zoneString (s : State) (z : ZoneId) : DisplayString :=
  match (s.zones[z]).current with
  | .score => scoreString ((s.zoneCfg z).counters.map fun k => (s.csu.score.toList.getD k 0))
  | _ => clockString s.csu.clocks[if s.isMain z then (0 : ClockId) else clockOf (s.zoneCfg z).clockSource]

/-! ## Writing clocks -/

/-- A value written into a clock, clamped to 0 and the limit, with the warn-armed flag of R92. -/
def ClockRec.write (c : ClockRec) (v : Nat) : ClockRec :=
  let c' := { c with value := min v c.limit }
  { c' with armed := c'.arm }

/-- The LINKED clocks in RUNNING stop (R86). -/
def stopLinked (s : State) : State :=
  (allFin 3).foldl (fun s c =>
    s.modClock c fun k => if k.linked && k.state == .running && c != 0 then { k with state := .stopped } else k) s

/-- GAME leaves RUNNING by STOP_CLOCK or by the stop line. -/
def stopGame (s : State) : State :=
  stopLinked (s.modClock 0 fun k => { k with state := .stopped })

/-! ## The score (R100, R101) -/

/-- A counter written; the score event when it increased. -/
def writeScore (k : CounterId) (v : Nat) (s : State) : State × Bool :=
  ({ s with csu := { s.csu with score := upd s.csu.score k fun _ => v } }, s.csu.score[k] < v)

/-- A counter written by a request, with its score event. -/
def scoreRequest (k : CounterId) (v : Nat) (s : State) : State :=
  let r := writeScore k v s
  if r.2 then triggerEvent (.scoreUp k) r.1 else r.1

/-! ## Counting (R85) -/

/-- Whether a clock is counted at a tick; `game` is whether GAME was RUNNING before it. -/
def ClockRec.counted (game : Bool) (k : ClockRec) : Bool := k.state == .running && (!k.linked || game) && !k.atEnd

/-- A counted clock after the count, EXPIRED at its end. -/
def ClockRec.step (k : ClockRec) : ClockRec :=
  let k' := { k with value := match k.dir with
    | .down => k.value - 1
    | .up => k.value + 1 }
  if k'.atEnd then { k' with state := .expired } else k'

/-- Whether a clock expires at the next tick. -/
def expires (s : State) (c : ClockId) : Bool :=
  (s.csu.clocks[c]).counted s.gameRunning && (s.csu.clocks[c]).step.atEnd

/-- Whether a clock fires its WARN at the next tick (R92). -/
def warns (s : State) (c : ClockId) : Bool :=
  let k := s.csu.clocks[c]
  k.counted s.gameRunning && k.dir == .down && k.armed && k.step.value ≤ k.warning

def clockNotice (c : ClockId) (e : ClockEvent) (s : State) : State :=
  notify (.clockEvent c e (s.csu.clocks[c]).value s.osu.seq) s

/-- R92: the WARN event; its CLOCK_EVENT goes before what the trigger event gives (log entry 60). -/
def warnEvent (s : State) (c : ClockId) : State :=
  triggerEvent (.warn c) (clockNotice c .warn (s.modClock c fun k => { k with armed := false }))

/-- R93: the expiry event but for its score event; its CLOCK_EVENT goes before what the trigger event gives (log entry 60). -/
def expiryEvent (s : State) (c : ClockId) : State :=
  let s := if (s.csu.clocks[c]).horn && s.cfl.startup != .safe then
      { s with csu := { s.csu with hornTime := 2000, hornLine := true } } else s
  let s := triggerEvent (.expiry c) (clockNotice c .expiry s)
  if c = 0 then stopLinked s else s

/-- The period counter raised as ADD_SCORE +1 would (R93), with the score event it gives. -/
def raisePeriod (s : State) : State :=
  match s.csu.period with
  | some k => scoreRequest k (min (s.csu.score[k] + 1) 999) s
  | none => s

/-- Counting and its events, in the order of R85. -/
def countClocks (s : State) : State :=
  let warned := (allFin 3).filter (warns s)
  let expired := (allFin 3).filter (expires s)
  let game := s.gameRunning
  let clocks := Vector.ofFn fun c : ClockId =>
    if (s.csu.clocks[c]).counted game then (s.csu.clocks[c]).step else s.csu.clocks[c]
  let s := { s with csu := { s.csu with clocks := clocks } }
  let s := warned.foldl warnEvent s
  let s := expired.foldl expiryEvent s
  if expired.contains 0 then raisePeriod s else s

/-- Whether an expiry of the next tick starts the horn. -/
def hornStarts (s : State) : Bool :=
  s.cfl.startup != .safe && (allFin 3).any fun c => expires s c && (s.csu.clocks[c]).horn

/-- R94: one tick of a sounding one-shot, except in the tick in which an expiry started it. -/
def countHorn (started : Bool) (s : State) : State :=
  if started then s
  else { s with csu := { s.csu with hornTime := s.csu.hornTime - 1, hornLine := 1 < s.csu.hornTime } }

/-- R96: the capture value of GAME. -/
def captureValue (s : State) : Nat :=
  let k := s.csu.clocks[(0 : Fin 3)]
  match k.dir with
  | .down => min (k.value + s.csu.stopFilter) k.limit
  | .up => min (k.value - s.csu.stopFilter) k.limit

/-- R96: an accepted assertion of the stop line; its CLOCK_EVENT goes before what the trigger event gives (log entry 60). -/
def stopAsserted (s : State) : State :=
  if s.gameRunning then
    let v := captureValue s
    let s := stopGame s
    triggerEvent .gameStopped (clockNotice 0 (.capture v) { s with csu := { s.csu with capture := some v } })
  else s

/-- R95: the stop line sampled. -/
def sampleStop (line : Bool) (s : State) : State :=
  let r := filterLine (s.csu.stopFilter + 1) s.csu.stopLevel s.csu.stopRun line
  let s := { s with csu := { s.csu with stopLevel := r.1, stopRun := r.2.1 } }
  if r.2.2 && line then stopAsserted s else s

/-- A tick of CSU (R83). -/
def tickCsu (line : Bool) (s : State) : State := sampleStop line (countHorn (hornStarts s) (countClocks s))

/-- A tick of MSE (R131, R134). -/
def tickMse (i : TickInput) (s : State) : State :=
  if i.expiryFirst then sampleAlarm i.alarmLine (countExpiries s) else countExpiries (sampleAlarm i.alarmLine s)

/-- R188: a write held RECEIVING for 30,000 ms without data is discarded. -/
def tickStaging (s : State) : State :=
  match s.cfl.staging with
  | .receiving w n d t =>
    { s with cfl := { s.cfl with staging := if 30000 ≤ t + 1 then .idle else .receiving w n d (t + 1) } }
  | _ => s

/-- One millisecond tick of the part. It runs from the end of POWER_UP. -/
def tick (i : TickInput) (s : State) : State :=
  if s.cfl.startup = .powerUp then s
  else tickStaging (if i.mseFirst then tickCsu i.stopLine (tickMse i s) else tickMse i (tickCsu i.stopLine s))

def execMsTick (i : TickInput) (s : State) : Host.Outcome State Fault Refusal := .next (tick i s)

/-! ## Cases of the tick -/

/-- A case of the tick: it happens when the condition says that the tick brings it about. -/
def tickWhen (due : Bool) (i : TickInput) (s : State) : Host.Outcome State Fault Refusal :=
  if due && s.cfl.startup != .powerUp then .next (tick i s) else .next s

def execClockExpiry (c : ClockId) (i : TickInput) (s : State) : Host.Outcome State Fault Refusal :=
  tickWhen (expires s c) i s

def execHornEnd (i : TickInput) (s : State) : Host.Outcome State Fault Refusal :=
  tickWhen (s.csu.hornTime == 1 && !hornStarts s) i s

def execStopLineAccept (i : TickInput) (s : State) : Host.Outcome State Fault Refusal :=
  tickWhen (filterLine (s.csu.stopFilter + 1) s.csu.stopLevel s.csu.stopRun i.stopLine).2.2 i s

def execAlarmLineAccept (i : TickInput) (s : State) : Host.Outcome State Fault Refusal :=
  tickWhen (filterLine s.mse.alarmFilter s.mse.alarmLevel s.mse.alarmRun i.alarmLine).2.2 i s

/-- Whether a held message expires at the next tick. -/
def messageExpires (s : State) (id : Nat) (l : Link) : Bool :=
  (s.mse.queue ++ s.mse.display.toList.map (·.message)).any fun m => m.id == id && m.source == l && m.tick.2

def execMessageExpiry (id : Nat) (l : Link) (i : TickInput) (s : State) : Host.Outcome State Fault Refusal :=
  tickWhen (messageExpires s id l) i s

/-- Whether a write in flight reaches its 30,000 ms mark at the next tick. -/
def writeTimesOut (s : State) : Bool :=
  match s.cfl.staging with
  | .receiving _ _ _ t => 30000 ≤ t + 1
  | _ => false

def execWriteIdleTimeout (i : TickInput) (s : State) : Host.Outcome State Fault Refusal := tickWhen (writeTimesOut s) i s

/-! ## Requests (R87 to R91, R94, R97, R100, R102) -/

/-- The clock a request names, after its form. -/
def namedClock (len : Nat) (p : List Byte) : Except Status ClockId :=
  if p.length ≠ len then .error .form
  else match index? 3 (byteAt p 0) with
    | none => .error .range
    | some c => .ok c

def doSetClock (p : List Byte) (s : State) : Answer :=
  match namedClock 5 p with
  | .error e => refuse e s
  | .ok c =>
    if (s.csu.clocks[c]).state = .running then refuse .state s
    else
      let s := s.modClock c fun k => { k.write (word p 1) with state := .set }
      ⟨s, .ok, .clockValue (s.csu.clocks[c]).value⟩

/-- Whether START_CLOCK may start a clock: SET or STOPPED, and not at its end. -/
def ClockRec.startable (k : ClockRec) : Bool := (k.state == .set || k.state == .stopped) && !k.atEnd

def doStartClock (p : List Byte) (s : State) : Answer :=
  match namedClock 1 p with
  | .error e => refuse e s
  | .ok c =>
    if !(s.csu.clocks[c]).startable then refuse .state s
    else
      let started := (allFin 3).filter fun k =>
        k == c || (c == 0 && (s.csu.clocks[k]).linked && (s.csu.clocks[k]).startable)
      let s' := started.foldl (fun s k => s.modClock k fun r => { r with state := .running }) s
      ⟨s', .ok, if c = 0 then .clocksStarted started else .empty⟩

def doStopClock (p : List Byte) (s : State) : Answer :=
  match namedClock 1 p with
  | .error e => refuse e s
  | .ok c =>
    if (s.csu.clocks[c]).state ≠ .running then refuse .state s
    else
      let s := if c = 0 then triggerEvent .gameStopped (stopGame s)
        else s.modClock c fun k => { k with state := .stopped }
      ⟨s, .ok, .clockValue (s.csu.clocks[c]).value⟩

/-- R90: the state of a clock after ADJUST_CLOCK. -/
def ClockRec.adjust (k : ClockRec) (delta : Int) : ClockRec :=
  let k' := k.write (clampInt (k.value + delta) k.limit)
  { k' with state := if k.state = .expired ∧ k'.value ≠ k.value then .stopped else k.state }

def doAdjustClock (p : List Byte) (s : State) : Answer :=
  match namedClock 5 p with
  | .error e => refuse e s
  | .ok c =>
    let delta := signed 32 (word p 1)
    if delta < -600000 ∨ 600000 < delta then refuse .range s
    else if (s.csu.clocks[c]).state = .running then refuse .state s
    else
      let s := s.modClock c fun k => k.adjust delta
      ⟨s, .ok, .clockValueState (s.csu.clocks[c]).value (s.csu.clocks[c]).state⟩

def doResetShot (p : List Byte) (s : State) : Answer :=
  if p.length ≠ 0 then refuse .form s
  else
    ⟨s.modClock 1 fun k => { k.write k.reset with state := if k.state = .expired then .set else k.state }, .ok, .empty⟩

def doApplyCapture (p : List Byte) (s : State) : Answer :=
  if p.length ≠ 0 then refuse .form s
  else if s.gameRunning then refuse .state s
  else match s.csu.capture with
    | none => refuse .unknown s
    | some v =>
      let s := s.modClock 0 fun k => { k.write v with state := .stopped }
      ⟨{ s with csu := { s.csu with capture := none } }, .ok, .clockValue (s.csu.clocks[(0 : Fin 3)]).value⟩

def doHorn (p : List Byte) (s : State) : Answer :=
  if p.length ≠ 2 then refuse .form s
  else
    let d := clamp 100 5000 (half p 0)
    ⟨{ s with csu := { s.csu with hornTime := d, hornLine := true } }, .ok, .hornTaken d⟩

def doSetScore (p : List Byte) (s : State) : Answer :=
  if p.length ≠ 3 then refuse .form s
  else match index? 16 (byteAt p 0) with
    | none => refuse .range s
    | some k =>
      if 999 < half p 1 then refuse .range s else ⟨scoreRequest k (half p 1) s, .ok, .scoreValue (half p 1)⟩

def doAddScore (p : List Byte) (s : State) : Answer :=
  if p.length ≠ 2 then refuse .form s
  else match index? 16 (byteAt p 0) with
    | none => refuse .range s
    | some k =>
      let delta := signed 8 (byteAt p 1)
      if delta < -99 ∨ 99 < delta then refuse .range s
      else
        let v := clampInt (s.csu.score[k] + delta) 999
        ⟨scoreRequest k v s, .ok, .scoreValue v⟩

def clockReport (s : State) : ClockReport :=
  { clocks := s.csu.clocks, strings := s.csu.clocks.toList.map clockString, capture := s.csu.capture,
    hornTime := s.csu.hornTime, stopLevel := s.csu.stopLevel, stopFilter := s.csu.stopFilter, score := s.csu.score,
    period := s.csu.period }

def doClockStatus (p : List Byte) (s : State) : Answer :=
  if p.length ≠ 0 then refuse .form s else ⟨s, .ok, .clockStatus (clockReport s)⟩

end Sys2Proof.Machine
end

