-- ==== Sys2Proof/Machine/Monitor.lean ====
section
/-! DEFINITION. The Feed Monitor and the Level Allocator (section 11): scans, trips, derate steps, the allocation of a
plan, and the Power and status requests of the section. -/

namespace Sys2Proof.Machine

/-! ## Feeds -/

def currentOf (i : FeedId) : ChannelId := ⟨i.val, by omega⟩

def voltageOf (i : FeedId) : ChannelId := ⟨i.val + 4, by omega⟩

/-- R28: a feed-enable line driven. -/
def setFeedLine (i : FeedId) (v : Bool) (s : State) : State :=
  { s with osu := { s.osu with feedLines := upd s.osu.feedLines i fun _ => v } }

/-- R178: the FEED_STATE notice of a feed. -/
def feedNotice (i : FeedId) (c : FeedCause) (s : State) : State :=
  let f := s.fmn.feeds[i]
  notify (.feedState i f.state f.derate f.effective c (s.fmn.channels[currentOf i]).last
    (s.fmn.channels[voltageOf i]).last s.osu.seq) s

/-- R175: the trip cause a completed scan gives a feed, if any. -/
def tripCause (s : State) (i : FeedId) : Option FeedCause :=
  if (s.fmn.channels[currentOf i]).overTrip then some .tripCurrent
  else if (s.fmn.channels[voltageOf i]).underTrip && (s.fmn.feeds[i]).tripRun == 1 then some .tripVoltage
  else none

/-- R175: a feed trips. -/
def tripFeed (i : FeedId) (c : FeedCause) (s : State) : State :=
  let s := s.modFeed i fun f => { f with tripped := true, derate := f.dMin, stressRun := 0, reliefRun := 0, tripRun := 0 }
  feedNotice i c (setFeedLine i false s)

/-- R176: the feed after its scan is classed; whether a derate step was made. -/
def Feed.classed (f : Feed) (c : ScanClass) : Feed × Bool :=
  match c with
  | .stressing =>
    if f.nStress ≤ f.stressRun + 1 then
      ({ f with stressRun := 0, reliefRun := 0, derate := max (f.derate - f.step) f.dMin }, true)
    else ({ f with stressRun := f.stressRun + 1, reliefRun := 0 }, false)
  | .relieving =>
    if f.nRelief ≤ f.reliefRun + 1 then
      ({ f with stressRun := 0, reliefRun := 0, derate := min (f.derate + f.step) 256 }, true)
    else ({ f with stressRun := 0, reliefRun := f.reliefRun + 1 }, false)
  | .neutral => ({ f with stressRun := 0, reliefRun := 0 }, false)

/-- The class of the last values for a feed. -/
def scanClassOf (s : State) (i : FeedId) : ScanClass :=
  classOf s.fmn.channels[currentOf i] s.fmn.channels[voltageOf i]

/-- R175, R176: a feed judged at a scan completion. -/
def judgeFeed (s : State) (i : FeedId) : State :=
  let f := s.fmn.feeds[i]
  if f.tripped then s
  else match tripCause s i with
    | some c => tripFeed i c s
    | none =>
      let low := (s.fmn.channels[voltageOf i]).underTrip
      let c := scanClassOf s i
      let f' := ({ f with tripRun := if low then 1 else 0 }.classed c).1
      let s := s.modFeed i fun _ => f'
      if f'.derate ≠ f.derate then feedNotice i (if c = .stressing then .stress else .relief) s else s

/-! ## Scans (R173, R174) -/

/-- The last values written from the values a scan holds. -/
def writeLast (values : List (ChannelId × Nat)) (s : State) : State :=
  values.foldl (fun s e => s.modChannel e.1 fun c => { c with last := some e.2 }) s

/-- The completion of the scan in flight. -/
def monitorComplete (m : MonitorScan) (s : State) : State :=
  let s := writeLast m.values { s with fmn := { s.fmn with scan := none } }
  (allFin 4).foldl judgeFeed s

/-- The start of a scan: the channels to convert and the ranges in effect are fixed. -/
def startScan (s : State) : State :=
  let todo := (allFin 8).filter fun i => (s.fmn.channels[i]).enabled
  let s := (allFin 8).foldl (fun s i => s.modChannel i fun c => match c.setting with
    | .current .. => { c with effect := c.selected }
    | .voltage .. => c) s
  let m : MonitorScan := { todo := todo, values := [] }
  if todo.isEmpty then monitorComplete m s else { s with fmn := { s.fmn with scan := some m } }

/-- R173: a scan trigger. -/
def scanTrigger (s : State) : State :=
  match s.fmn.scan with
  | some _ => { s with fmn := { s.fmn with skipped := bump 65535 s.fmn.skipped } }
  | none => startScan s

/-- R174: the calibrated value of a conversion from the first A samples. -/
def calibrated (c : Channel) (average : Nat) (samples : List Nat) : Nat :=
  (samples.take average).sum / average * c.calibration / 1024

def execChannelConversionEnd (samples : List Nat) (s : State) : Host.Outcome State Fault Refusal :=
  match s.fmn.scan with
  | some m => match m.todo with
    | i :: todo =>
      if samples.length < s.fmn.average ∨ samples.any fun v => decide (4095 < v) then .next s
      else
        let v := calibrated s.fmn.channels[i] s.fmn.average samples
        .next { s with fmn := { s.fmn with scan := some { todo := todo, values := m.values ++ [(i, v)] } } }
    | [] => .next s
  | none => .next s

/-- The scan in flight, when its last conversion has ended. -/
def scanEnded (s : State) : Option MonitorScan := s.fmn.scan.bind fun m => if m.todo.isEmpty then some m else none

def execMonitorScanComplete (s : State) : Host.Outcome State Fault Refusal :=
  match scanEnded s with
  | some m => .next (monitorComplete m s)
  | none => .next s

/-- Whether the completion of a scan makes a derate step for a feed. -/
def stepDue (s : State) (m : MonitorScan) (i : FeedId) : Bool :=
  let t := writeLast m.values s
  !(t.fmn.feeds[i]).tripped && (tripCause t i).isNone && ((t.fmn.feeds[i]).classed (scanClassOf t i)).2

def execDerateStep (i : FeedId) (s : State) : Host.Outcome State Fault Refusal :=
  match scanEnded s with
  | some m => if stepDue s m i then .next (monitorComplete m s) else .next s
  | none => .next s

/-! ## Requests (R171, R177, R182) -/

/-- R171, in effect at the next scan start; a restart gives every channel its initial range again (R184, log
entry 49). -/
def doSetRange (p : List Byte) (s : State) : Answer :=
  if p.length ≠ 2 then refuse .form s
  else match index? 4 (byteAt p 0), rangeOf (byteAt p 1) with
    | some i, some r =>
      ⟨s.modChannel (currentOf i) fun c => { c with selected := r }, .ok,
        .ranges r (s.fmn.channels[currentOf i]).effect⟩
    | _, _ => refuse .range s

/-- R177: a channel that keeps a feed tripped: enabled without a last value, or past its trip limit. That
the limit is that of the range in effect, also while the last value is still one of a scan in the other
range, is the model's choice (log entry 68). -/
def holdsTrip (c : Channel) : Bool := c.enabled && (c.last.isNone || c.overTrip)

def holdsTripUnder (c : Channel) : Bool := c.enabled && (c.last.isNone || c.underTrip)

def doReleaseFeed (p : List Byte) (s : State) : Answer :=
  if p.length ≠ 1 then refuse .form s
  else match index? 4 (byteAt p 0) with
    | none => refuse .range s
    | some i =>
      if !(s.fmn.feeds[i]).tripped || holdsTrip s.fmn.channels[currentOf i] ||
          holdsTripUnder s.fmn.channels[voltageOf i] then refuse .state s
      else
        let s := feedNotice i .release (setFeedLine i s.inRun (s.modFeed i fun f => { f with tripped := false }))
        ⟨s, .ok, .feed (s.fmn.feeds[i]).state (s.fmn.feeds[i]).derate⟩

/-- R182: a sense channel as MONITOR_STATUS reports it. -/
def Channel.report (c : Channel) : ChannelReport :=
  { enabled := c.enabled
    ranges := match c.setting with
      | .current .. => some (c.selected, c.effect)
      | .voltage .. => none
    calibration := c.calibration
    thresholds := match c.setting with
      | .current .. => (c.rangeSet.low, c.rangeSet.high, c.rangeSet.trip)
      | .voltage .. => c.voltageSet
    last := c.last }

def monitorReport (s : State) : MonitorReport :=
  { seq := s.osu.seq, standing := s.osu.standing, testPending := s.osu.testPending, chains := s.osu.chains,
    settle := s.fmn.settle, sample := s.fmn.sample, average := s.fmn.average, scanInFlight := s.fmn.scan.isSome,
    skipped := s.fmn.skipped, channels := Vector.ofFn fun i => (s.fmn.channels[i]).report, feeds := s.fmn.feeds,
    feedStates := s.fmn.feeds.toList.map Feed.state, effectiveBudgets := s.fmn.feeds.toList.map Feed.effective,
    lva := s.fmn.lva }

def doMonitorStatus (p : List Byte) (s : State) : Answer :=
  if p.length ≠ 0 then refuse .form s else ⟨s, .ok, .monitorStatus (monitorReport s)⟩

/-! ## Level allocation (R179 to R181) -/

/-- The draw v × a × q of a plan entry on a feed. -/
def PlanEntry.draw (e : PlanEntry) (i : FeedId) : Nat := e.visible[i] * e.load * e.level

/-- The draw of the HELD (or FREE) entries of a plan on a feed. -/
def drawOf (plan : List PlanEntry) (held : Bool) (i : FeedId) : Nat :=
  ((plan.filter (·.held == held)).map (·.draw i)).sum

/-- R180: the scale of a feed not TRIPPED. -/
def scaleOf (effective p u : Nat) : Nat :=
  if u = 0 ∨ p + u ≤ effective * 65025 then 256
  else if effective * 65025 ≤ p then 0
  else (effective * 65025 - p) * 256 / u

/-- One feed of the last result. -/
def allocateFeed (f : Feed) (plan : List PlanEntry) (i : FeedId) : LvaFeed :=
  if f.tripped then { state := .tripped, budget := 0, held := 0, free := 0, scale := 0 }
  else
    let p := drawOf plan true i
    let u := drawOf plan false i
    { state := f.state, budget := f.effective, held := p, free := u, scale := scaleOf f.effective p u }

/-- R181: the applied level of an entry. -/
def appliedLevel (feeds : Vector LvaFeed 4) (e : PlanEntry) : Nat :=
  if e.held then e.level
  else
    ((allFin 4).filter fun i => (feeds[i]).state != .tripped && e.visible[i] != 0).foldl
      (fun l i => min l (e.level * (feeds[i]).scale / 256)) e.level

/-- R179 to R181: the allocation of a plan of composition `n`. -/
def allocate (n : Seq) (plan : List PlanEntry) (s : State) : State × List PlanEntry :=
  let feeds := Vector.ofFn fun i => allocateFeed s.fmn.feeds[i] plan i
  ({ s with fmn := { s.fmn with lva := { num := n, feeds := feeds } } },
    plan.map fun e => { e with applied := appliedLevel feeds e })

end Sys2Proof.Machine
end

