-- ==== Sys2Proof/Machine/Scan.lean ====
section
/-! DEFINITION. The Output Scan Unit (section 2): return words, scan completion, what the chains are sent, and the
scan-mode requests. -/

namespace Sys2Proof.Machine

/-! ## What the chains are sent (R19, R22) -/

/-- A tile whose sub-pixels are all 0. -/
def blackTile : Tile := List.replicate 3072 0

/-- The tile of a chain at a position. -/
def tileAt (im : Image) (c p : Nat) : Option TileRec := im.geometry.tiles.find? fun t => t.chain == c && t.position == p

/-- A sub-pixel of the test pattern, which does not exceed 64 (R27). -/
def testBound (p : Byte) : Byte := if p ≤ 64 then p else 64

/-- Whether a pixel of a tile lies on its one-pixel border. -/
def onBorder (x y : Nat) : Bool := x == 0 || x == 31 || y == 0 || y == 31

/-- Whether a feed's colour has a sub-pixel (red 0, green 1, blue 2): feed 0 red, 1 green, 2 blue, 3 white (R27). -/
def feedColour (feed sub : Nat) : Bool := feed == sub || feed == 3

/-- The level of the feed's colour: free, from 1 to 64. -/
def testLevel : Byte := if Config.testLevel = 0 then 1 else testBound Config.testLevel

/-- A sub-pixel of a tile's test pattern (R27): the border, the two numerals, and the feed's colour on the rest (log entry
14). -/
def testSubPixel (t : TileRec) (x y sub : Nat) : Byte :=
  if onBorder x y then testBound (Config.testBorder sub)
  else if Config.testNumeral t.chain t.position x y then testBound (Config.testInk sub)
  else if feedColour t.feed sub then testLevel
  else 0

/-- The test pattern of a tile: 32 lines of 32 pixels of three sub-pixels, in the order of R72. -/
def testTile (t : TileRec) : Tile :=
  (List.range 3072).map fun k => testSubPixel t (k / 3 % 32) (k / 96) (k % 3)

/-- The block sent for a position of a chain. -/
def blockOf (im : Image) (f : ScanFrame) (c p : Nat) : Tile :=
  match tileAt im c p with
  | none => blackTile
  | some t => match f.mode with
    | .lit => (f.picture[t.row * im.geometry.width + t.col]?).getD blackTile
    | .dark => blackTile
    | .test => testTile t

/-- What a chain is sent for the scanning frame: the scan tag and its blocks by position; nothing on an UNUSED chain. -/
def chainData (s : State) (c : ChainId) : Option (Byte × List Tile) :=
  if chainUsed s.cfl.image c then
    s.osu.scanning.map fun f =>
      (f.tag, (List.range (chainLength s.cfl.image c)).map (blockOf s.cfl.image f c))
  else none

/-! ## Return words and judgement (R23, R24) -/

/-- R23: a return word read from a chain; `sent` is that the chain's first block of the scanning frame has been sent. -/
def execReturnWord (c : ChainId) (sent : Bool) (word : Byte × Nat) (s : State) : Host.Outcome State Fault Refusal :=
  match s.osu.scanning with
  | some f =>
    if sent && f.windowOpen && (s.osu.chains[c]).state != .unused && (f.returns[c]).isNone then
      let g := { f with returns := upd f.returns c fun _ => some word }
      .next { s with osu := { s.osu with scanning := some g } }
    else .next s
  | none => .next s

/-- Whether some tile of a chain lies on a feed TRIPPED now. -/
def onTrippedFeed (s : State) (c : ChainId) : Bool :=
  (chainTiles s.cfl.image c).any fun t => match index? 4 t.feed with
    | some i => (s.fmn.feeds[i]).tripped
    | none => false

/-- R23: whether a chain's return is good. -/
def goodReturn (s : State) (f : ScanFrame) (c : ChainId) : Bool :=
  match f.returns[c] with
  | some (tag, count) => tag == f.tag && count == chainLength s.cfl.image c
  | none => false

/-- A chain's health record after the judgement of a frame. -/
def judgedChain (s : State) (f : ScanFrame) (c : ChainId) : ChainRec :=
  if onTrippedFeed s c then s.osu.chains[c] else (s.osu.chains[c]).judge (goodReturn s f c)

/-- R24: the chains that enter or leave FAULT at a judgement. -/
def faultMoves (before after : Vector ChainRec 48) : List ChainId :=
  (allFin 48).filter fun c => ((before[c]).state == .fault) != ((after[c]).state == .fault)

/-- The scanning frame whose scan completion is to come, in RUN. -/
def openScan (s : State) : Option ScanFrame :=
  if s.inRun then s.osu.scanning.bind fun f => if f.windowOpen then some f else none else none

/-- The scan completion of a frame (R23 to R25). -/
def scanCompletion (f : ScanFrame) (s : State) : State :=
  let before := s.osu.chains
  let after := Vector.ofFn fun c => judgedChain s f c
  let s := { s with osu := { s.osu with chains := after, scanning := some { f with windowOpen := false } } }
  let s := (faultMoves before after).foldl (fun s c => notify (.chainState c (after[c]).state (f.num.getD 0)) s) s
  match f.record with
  | some r => deliver { r with dark := f.mode != .lit } s
  | none => s

def execScanCompletion (s : State) : Host.Outcome State Fault Refusal :=
  match openScan s with
  | some f => .next (scanCompletion f s)
  | none => .next s

/-- A case of the scan completion for a chain. -/
def scanWhen (due : ScanFrame → Bool) (s : State) : Host.Outcome State Fault Refusal :=
  match openScan s with
  | some f => if due f then .next (scanCompletion f s) else .next s
  | none => .next s

def execChainFault (c : ChainId) (s : State) : Host.Outcome State Fault Refusal :=
  scanWhen (fun f => (s.osu.chains[c]).state == .suspect && (judgedChain s f c).state == .fault) s

def execChainRecover (c : ChainId) (s : State) : Host.Outcome State Fault Refusal :=
  scanWhen (fun f => (s.osu.chains[c]).state == .fault && (judgedChain s f c).state == .ok) s

/-! ## Scan modes (R26, R27) -/

def doSetDark (p : List Byte) (s : State) : Answer :=
  if p.length ≠ 0 then refuse .form s
  else match s.osu.standing with
    | .dark => ⟨s, .ok, .standing .dark⟩
    | .lit =>
      let before := s.osu.chains
      let after := Vector.ofFn fun c : ChainId => if (before[c]).state = .unused then before[c] else ChainRec.fresh
      let s := { s with osu := { s.osu with standing := .dark, chains := after } }
      ⟨(faultMoves before after).foldl (fun s c => notify (.chainState c .ok s.osu.seq) s) s, .ok, .standing .dark⟩

def doSetLit (p : List Byte) (s : State) : Answer :=
  if p.length ≠ 0 then refuse .form s else ⟨{ s with osu := { s.osu with standing := .lit } }, .ok, .standing .lit⟩

def doTestFrame (p : List Byte) (s : State) : Answer :=
  if p.length ≠ 0 then refuse .form s
  else if s.osu.testPending then refuse .state s
  else ⟨{ s with osu := { s.osu with testPending := true } }, .ok, .empty⟩

end Sys2Proof.Machine
end

