-- ==== Sys2Proof/Machine/Compose.lean ====
section
/-! DEFINITION. The Compositor (section 4): adoption, clip queries, mirror copies, the plan and the tile data, the end of
a composition, and the frame start that begins one (R20). -/

namespace Sys2Proof.Machine

def State.modComp (s : State) (f : Composition → Composition) : State :=
  { s with cmp := { s.cmp with comp := f s.cmp.comp } }

/-! ## Adoption (R37, R39, R40) -/

/-- The holder of the top entry of a MAIN zone is told that its content is on air (R45). -/
def tellOnAir (z : ZoneId) (s : State) : State :=
  if s.isMain z && (s.zones[z]).stack.top == 1 then resumeCue z s else s

/-- R39: one zone with an owner. -/
def adoptZone (n : Seq) (s : State) (z : ZoneId) : State :=
  let r := s.zones[z]
  match r.pending with
  | some c =>
    let s := dropPending z (setCurrent z c n s)
    if c.isGap then s.modZone z fun r => { r with gapLeft := (s.zoneCfg z).gap }
    else tellOnAir z (s.modZone z fun r => { r with gapLeft := 0 })
  | none =>
    if r.current.isGap then
      let s := s.modZone z fun r => { r with gapLeft := r.gapLeft - 1 }
      if (s.zones[z]).gapLeft = 0 then tellOnAir z (setCurrent z r.stack.topContent n s) else s
    else s

/-- Whether ZM handles a zone by R39. -/
def adopts (s : State) (z : ZoneId) : Bool := z != 15 && (s.followerOf z).isNone

/-- R37: Z15 follows the emergency state. Where it comes to an adoption point with the asset that Z15 shows, be it
named again, replaced and named again, or cleared and posted again since, the start frame stays, which is the
model's choice (log entry 66). -/
def adoptEmergency (n : Seq) (s : State) : State :=
  let c := match s.evacAsset s.mse.emergency with
    | some a => Content.evac a
    | none => Content.none
  if (s.zones[(15 : Fin 16)]).current = c then s else setCurrent 15 c n s

/-- R40: the recorded flags taken. -/
def takeShown (s : State) (z : ZoneId) : State := s.modZone z fun r => { r with shown := r.recorded }

/-- The zones CMP queries: MAIN zones whose current content is CLIP (R58). -/
def clipZones (s : State) : List ZoneId :=
  (allFin 16).filter fun z => s.isMain z && (s.zones[z]).current.kind == .clip

/-- The zones whose string CMP reads (R60). -/
def stringZones (s : State) : List ZoneId :=
  (allFin 16).filter fun z => (s.zones[z]).current.kind == .clock || (s.zones[z]).current.kind == .score

/-- The adoption point of composition `n` (R55), with the strings read for it (R60). The zones are handled
by rising number, which orders the CUE_STATE notices of cues that come on air together (log entry 20). -/
def adoptionPoint (n : Seq) (s : State) : State :=
  let s := ((allFin 16).filter (adopts s)).foldl (adoptZone n) s
  let s := adoptEmergency n ((allFin 16).foldl takeShown s)
  s.modComp fun c =>
    { c with phase := .advancing, queries := clipZones s, strings := (stringZones s).map fun z => (z, zoneString s z) }

/-! ## Mirror copies (R49) -/

/-- One follower of a leader. -/
def copyTo (n : Seq) (leader : ZoneId) (s : State) (y : ZoneId) : State :=
  let l := s.zones[leader]
  if l.current.isFallback then
    let f := fallbackOf (s.zoneCfg y)
    if (s.zones[y]).current = f then s else setCurrent y f n s
  else setCurrent y l.current l.start s

def mirrorCopies (n : Seq) (s : State) : State :=
  (allFin 16).foldl (fun s z => (s.followers z).foldl (copyTo n z) s) s

/-- The end of step 3 and step 4: the cue-start passes (R59), then the mirror copies. -/
def finishAdvance (s : State) : State :=
  let n := s.cmp.comp.num
  let s := s.cmp.comp.passes.foldl (conflictPass n) s
  (mirrorCopies n s).modComp fun c => { c with phase := .ready }

def whenAdvanced (s : State) : State :=
  if s.cmp.comp.phase = .advancing ∧ s.cmp.comp.queries = [] then finishAdvance s else s

/-- The adoption point taken, if the composition under way has not taken it. -/
def stageAdopt (s : State) : State :=
  if s.cmp.comp.phase = .begun then whenAdvanced (adoptionPoint s.cmp.comp.num s) else s

/-! ## Clip queries (R58, R59) -/

def holdOf (sl : Slot) : ClipHold :=
  { clip := sl.clip, frame := sl.frame, width := sl.width, height := sl.height, load := sl.load, data := sl.data }

/-- A FRAME answer: the slot's frame copied into the zone's clip hold record. -/
def takeFrame (z : ZoneId) (cue i : Nat) (s : State) : State :=
  match s.slot i with
  | some sl =>
    { s with cmp := { s.cmp with
        holds := upd s.cmp.holds z fun _ => some (holdOf sl), taken := s.cmp.taken ++ [{ zone := z, slot := i, cue := cue }] } }
  | none => s

/-- The query of one zone. -/
def queryZone (s : State) (z : ZoneId) : State :=
  match (s.zones[z]).current with
  | .clip cue _ =>
    let r := cueQuery s.cmp.comp.num z cue s
    let a := r.2
    let s := match a.slot with
      | some i => takeFrame z cue i r.1
      | none => r.1
    let pass := match a.attribution with
      | some c => if a.entered then [(c, (s.exu.contracts[c]).category)] else []
      | none => []
    s.modComp fun c =>
      { c with queries := c.queries.filter (· != z), answers := c.answers ++ [(z, a)], passes := c.passes ++ pass }
  | _ => s.modComp fun c => { c with queries := c.queries.filter (· != z) }

/-- The queries still to make, up to and with a zone's. -/
def queriesTo (z : ZoneId) (l : List ZoneId) : List ZoneId := l.takeWhile (· != z) ++ [z]

/-- The query of a zone, with the steps before it; none when the zone is not to be queried. -/
def queryStep (z : ZoneId) (s : State) : Option State :=
  if s.inRun then
    let s := stageAdopt s
    if s.cmp.comp.phase = .advancing ∧ z ∈ s.cmp.comp.queries then
      some (whenAdvanced ((queriesTo z s.cmp.comp.queries).foldl queryZone s))
    else none
  else none

def execClipFrameQuery (z : ZoneId) (s : State) : Host.Outcome State Fault Refusal := .next ((queryStep z s).getD s)

/-- CQS's answer to a zone's query in the composition under way. -/
def State.answer (s : State) (z : ZoneId) : Option ClipAnswer := (s.cmp.comp.answers.find? (·.1 == z)).map (·.2)

def execFreezeLimitAbort (z : ZoneId) (s : State) : Host.Outcome State Fault Refusal :=
  match queryStep z s with
  | some t => if (t.answer z).any fun a => a.state == some .aborted then .next t else .next s
  | none => .next s

/-- Whether the adoption point is still to come. -/
def adoptionDue (s : State) : Bool := s.inRun && s.cmp.comp.phase == .begun

def execAdoptionPoint (s : State) : Host.Outcome State Fault Refusal :=
  if adoptionDue s then .next (stageAdopt s) else .next s

/-- Whether a zone's gap ends at the adoption point to come. -/
def gapEnds (s : State) (z : ZoneId) : Bool :=
  let r := s.zones[z]
  adopts s z && r.pending.isNone && r.current.isGap && r.gapLeft ≤ 1

def execGapEnd (z : ZoneId) (s : State) : Host.Outcome State Fault Refusal :=
  if adoptionDue s && gapEnds s z then .next (stageAdopt s) else .next s

/-! ## Layering and the plan (R36, R56, R61, R62) -/

/-- R36: presence. -/
def present (s : State) (z : ZoneId) : Bool :=
  (!isCounterZone (s.zoneCfg z).cls || (s.zones[z]).shown) && (s.zones[z]).current.kind != .none

def covers (g : ZoneCfg) (col row : Nat) : Bool :=
  g.col ≤ col && col < g.col + g.width && g.row ≤ row && row < g.row + g.height

/-- R36: the owner of a tile, the zones present being taken by rising number. -/
def tileOwner (s : State) (col row : Nat) : Option ZoneId :=
  ((allFin 16).filter fun z => present s z && covers (s.zoneCfg z) col row).foldl (fun best z =>
    match best with
    | none => some z
    | some b =>
      if layerOf s.cfl.image.classMap (s.zoneCfg b).cls < layerOf s.cfl.image.classMap (s.zoneCfg z).cls then some z
      else some b) none

/-- R54: whether a tile is visible in the snapshot. -/
def tileVisible (c : Composition) (t : TileRec) : Bool :=
  (match index? 48 t.chain with
    | some k => c.chainOk[k]
    | none => false) &&
  (match index? 4 t.feed with
    | some i => !c.tripped[i]
    | none => false)

/-- The visible tiles of a zone on a feed. -/
def visibleOn (s : State) (z : ZoneId) (i : FeedId) : Nat :=
  (s.cfl.image.geometry.tiles.filter fun t =>
    t.feed == i.val && tileVisible s.cmp.comp t && tileOwner s t.col t.row == some z).length

def assetLoad (s : State) (id : Nat) : Nat :=
  match (s.asset id).body with
  | .ready _ _ l => l
  | _ => 0

/-- R56: the load figure of a zone's content, and whether its dim class is HELD. -/
def demand (s : State) (z : ZoneId) : Nat × Bool :=
  match (s.zones[z]).current with
  | .asset a _ _ _ => (assetLoad s a, false)
  | .message a _ _ _ => (assetLoad s a, false)
  | .alert a _ _ _ => (assetLoad s a, true)
  | .evac a => (assetLoad s a, true)
  | .clip _ _ => ((match s.cmp.holds[z] with
      | some h => h.load
      | none => 0), false)
  | .clock => ((s.zoneCfg z).load, true)
  | .score => ((s.zoneCfg z).load, true)
  | _ => (0, false)

def planEntry (s : State) (z : ZoneId) : PlanEntry :=
  let d := demand s z
  { zone := z, level := (requestedLevel (s.zoneCfg z) (s.zones[z]).current).getD 0, load := d.1, held := d.2,
    visible := Vector.ofFn (visibleOn s z), area := s.area z, applied := 0 }

/-- R62: the frame plan. -/
def framePlan (s : State) : List PlanEntry := ((allFin 16).filter (present s)).map (planEntry s)

/-! ## Tile data (R57, R60, R63, R79) -/

/-- A read of a picture: one tile of one frame, black outside it. -/
def pictureTile (width height frames frame dx dy : Nat) (data : List Byte) : Tile :=
  if frame < frames ∧ dx < width ∧ dy < height then
    (data.drop (((frame * height + dy) * width + dx) * 3072)).take 3072
  else blackTile

/-- R79: a read of an asset. -/
def assetTile (s : State) (id frame dx dy : Nat) : Tile :=
  match (s.asset id).body with
  | .ready h data _ => pictureTile h.width h.height h.frames frame dx dy data
  | _ => blackTile

/-- R57: the animation frame of an asset in composition `n`. -/
def animationFrame (s : State) (id : Nat) (n start : Seq) : Nat :=
  match (s.asset id).body with
  | .ready h _ _ => (n - start).toNat / h.interval % h.frames
  | _ => 0

/-- The frame of asset 1 that holds a glyph (R60). -/
def glyphFrame : Glyph → Nat
  | .digit d => d
  | .colon => 10
  | .stop => 11
  | .space => 12

/-- R60: a tile of a rendered string, the last glyph ending at the right edge. -/
def stringTile (s : State) (width : Nat) (text : DisplayString) (dx dy : Nat) : Tile :=
  match (s.asset 1).body with
  | .ready h data _ =>
    let fromRight := width - 1 - dx
    match text.reverse[fromRight / h.width]? with
    | some g => pictureTile h.width h.height h.frames (glyphFrame g) (h.width - 1 - fromRight % h.width) dy data
    | none => blackTile
  | _ => blackTile

/-- R63: the source tile of a zone at an offset. -/
def sourceTile (s : State) (z : ZoneId) (dx dy : Nat) : Tile :=
  let r := s.zones[z]
  let n := s.cmp.comp.num
  match r.current with
  | .asset a _ _ _ => assetTile s a (animationFrame s a n r.start) dx dy
  | .message a _ _ _ => assetTile s a (animationFrame s a n r.start) dx dy
  | .alert a _ _ _ => assetTile s a (animationFrame s a n r.start) dx dy
  | .evac a => assetTile s a (animationFrame s a n r.start) dx dy
  | .clip _ _ => (match s.cmp.holds[z] with
      | some h => pictureTile h.width h.height 1 0 dx dy h.data
      | none => blackTile)
  | .clock => stringTile s (s.zoneCfg z).width (((s.cmp.comp.strings.find? (·.1 == z)).map (·.2)).getD []) dx dy
  | .score => stringTile s (s.zoneCfg z).width (((s.cmp.comp.strings.find? (·.1 == z)).map (·.2)).getD []) dx dy
  | _ => blackTile

def scaleTile (level : Nat) (t : Tile) : Tile := t.map fun p => BitVec.ofNat 8 (p.toNat * level / 255)

/-- The level a plan applies to a zone. -/
def levelIn (plan : List PlanEntry) (z : ZoneId) : Nat := ((plan.find? (·.zone == z)).map (·.applied)).getD 0

/-- R63: a tile as written. -/
def writtenTile (s : State) (plan : List PlanEntry) (t : TileRec) : Tile :=
  match tileOwner s t.col t.row with
  | some z =>
    if tileVisible s.cmp.comp t then
      scaleTile (levelIn plan z) (sourceTile s z (t.col - (s.zoneCfg z).col) (t.row - (s.zoneCfg z).row))
    else blackTile
  | none => blackTile

/-- The tile data of the grid, row by row. -/
def picture (s : State) (plan : List PlanEntry) : List Tile :=
  let g := s.cfl.image.geometry
  (List.range (g.width * g.height)).map fun k =>
    match g.tiles.find? fun t => t.row * g.width + t.col == k && t.col < g.width with
    | some t => writtenTile s plan t
    | none => blackTile

/-- Steps 5 to 7: the plan formed, allocated, and the tile data written; LVA's last result so far is set
aside (R181). -/
def allocatePlan (s : State) : State :=
  let r := allocate s.cmp.comp.num (framePlan s) s
  let pic := picture s r.2
  r.1.modComp fun c => { c with phase := .planned, plan := r.2, picture := pic, before := some s.fmn.lva }

/-- The taken reports still under way. -/
def takenAll (s : State) : State := s.cmp.taken.foldl (fun s t => takenReport t s) s

/-- The steps up to the plan, so far as the composition under way has not taken them. -/
def stageReady (s : State) : State :=
  let s := stageAdopt s
  takenAll (whenAdvanced (s.cmp.comp.queries.foldl queryZone s))

def stagePlan (s : State) : State :=
  let s := stageReady s
  if s.cmp.comp.phase = .ready then allocatePlan s else s

/-- Whether a composition is under way and has no plan yet. -/
def planDue (s : State) : Bool := s.inRun && s.cmp.comp.phase != .idle && s.cmp.comp.phase != .planned

def execPlanAllocation (s : State) : Host.Outcome State Fault Refusal :=
  if planDue s then .next (stagePlan s) else .next s

/-! ## The end of a composition (R64 to R66) -/

/-- What a zone's content is attributed to (R64). -/
def attributionIn (s : State) (z : ZoneId) : Option (RecordKey × ContractId) :=
  match (s.zones[z]).current with
  | .asset _ _ (some r) _ => some (.airing r.id, r.contract)
  | .clip cue _ => (s.answer z).bind fun a =>
      if a.state = some .playing ∨ a.state = some .frozen then a.attribution.map fun c => (.cue cue c, c) else none
  | _ => none

def PlanEntry.seen (e : PlanEntry) : Nat := (allFin 4).foldl (fun m i => m + e.visible[i]) 0

/-- The frame record's entry of a zone. -/
def frameEntry (s : State) (z : ZoneId) : Option FrameEntry :=
  match attributionIn s z, s.cmp.comp.plan.find? (·.zone == z) with
  | some (k, c), some e => some { zone := z, key := k, contract := c, area := s.area z, visible := e.seen, level := e.applied }
  | some (k, c), none => some { zone := z, key := k, contract := c, area := s.area z, visible := 0, level := 0 }
  | none, _ => none

/-- Step 8 but for the report: the built frame with its record, and the last plan report. -/
def buildFrame (s : State) : State :=
  let c := s.cmp.comp
  let record : FrameRecord := { num := c.num, dark := false, entries := (allFin 16).filterMap (frameEntry s) }
  let last : PlanReport :=
    { num := c.num, entries := c.plan, budgets := Vector.ofFn fun i => (s.fmn.lva.feeds[i]).budget,
      scales := Vector.ofFn fun i => (s.fmn.lva.feeds[i]).scale }
  let osu := { s.osu with built := some { picture := c.picture, record := record } }
  { s with osu := osu, cmp := { s.cmp with comp := Composition.idle, lastPlan := last } }

/-- R65: the composition report handed to its two readers. -/
def report (o : ReportOrder) (n : Seq) (s : State) : State :=
  match o with
  | .rotFirst => displayStep (rotationStep n s)
  | .mseFirst => rotationStep n (displayStep s)

/-- A planned composition ended. -/
def endComposition (o : ReportOrder) (s : State) : State :=
  if s.cmp.comp.phase = .planned then report o s.cmp.comp.num (buildFrame s) else s

/-- The composition under way carried to its end. -/
def stageEnd (o : ReportOrder) (s : State) : State :=
  if s.cmp.comp.phase = .idle then s else endComposition o (stagePlan s)

/-- Whether a composition is under way. -/
def composing (s : State) : Bool := s.inRun && s.cmp.comp.phase != .idle

def execCompositionEnd (o : ReportOrder) (s : State) : Host.Outcome State Fault Refusal :=
  if composing s then .next (stageEnd o s) else .next s

/-- Whether the report of the planned composition completes a zone's airing (R150). -/
def airingCompletes (s : State) (z : ZoneId) : Bool :=
  (s.airing z).any fun a =>
    let b := a.countIf s.cmp.comp.num ((s.zones[z]).current.airing.map (·.id))
    b.phase == .onAir && b.frames == b.duration

def execAiringComplete (z : ZoneId) (o : ReportOrder) (s : State) : Host.Outcome State Fault Refusal :=
  if composing s && airingCompletes (stagePlan s) z then .next (stageEnd o s) else .next s

/-- Whether the next display step ends a showing (R128). -/
def showingEnds (s : State) : Bool := s.mse.emergency == .none && s.mse.display.any fun d => d.framesLeft ≤ 1

def execMessageShowingEnd (o : ReportOrder) (s : State) : Host.Outcome State Fault Refusal :=
  if composing s && showingEnds s then .next (stageEnd o s) else .next s

def doPlanStatus (p : List Byte) (s : State) : Answer :=
  if p.length ≠ 0 then refuse .form s else ⟨s, .ok, .planStatus s.cmp.lastPlan⟩

/-! ## The frame start (R20) -/

/-- The number's low 8 bits (R22). -/
def scanTag (n : Seq) : Byte := BitVec.ofNat 8 n.toNat

/-- The scan mode of a frame that starts now (R26, R27). -/
def scanMode (o : Osu) : ScanMode :=
  if o.testPending then .test else match o.standing with
    | .lit => .lit
    | .dark => .dark

/-- Step 1: the built frame, or the black frame, becomes the scanning frame. -/
def nextScan (o : Osu) : ScanFrame :=
  let returns := Vector.replicate 48 none
  match o.built with
  | some b =>
    { num := some b.record.num, tag := scanTag b.record.num, mode := scanMode o, picture := b.picture,
      record := some b.record, returns := returns, windowOpen := true }
  | none =>
    { num := none, tag := scanTag o.seq, mode := scanMode o, picture := [], record := none, returns := returns,
      windowOpen := true }

/-- R54: the snapshot of a composition that begins. -/
def snapshot (n : Seq) (s : State) : Composition :=
  { Composition.idle with
    phase := .begun, num := n, chainOk := Vector.ofFn fun c => (s.osu.chains[c]).state == .ok,
    tripped := Vector.ofFn fun i => (s.fmn.feeds[i]).tripped }

/-- R20: a frame start. -/
def frameStart (s : State) : State :=
  let n := s.osu.seq + 1
  let osu := { s.osu with scanning := some (nextScan s.osu), built := none, seq := n, testPending := false }
  let s := { s with osu := osu }
  scanTrigger (s.modComp fun _ => snapshot n s)

/-- The period now ending: what of its scan and composition is still outstanding completes (R20). -/
def completePeriod (s : State) : State :=
  let s := match openScan s with
    | some f => scanCompletion f s
    | none => s
  stageEnd .rotFirst s

def execFrameStart (s : State) : Host.Outcome State Fault Refusal :=
  if s.inRun then .next (frameStart (completePeriod s)) else .next s

end Sys2Proof.Machine
end

