-- ==== Sys2Proof/Machine/Assets.lean ====
section
/-! DEFINITION. The Asset Store's loading, deletion and status (section 5). -/

namespace Sys2Proof.Machine

/-- R80: the ASSET_STATE notice of a record that became READY or EMPTY. -/
def assetNotice (id : Nat) (cause : AssetCause) (s : State) : State :=
  match (s.asset id).body with
  | .ready _ _ l => notify (.assetState id true cause (some l) s.ast.freeBlocks) s
  | _ => notify (.assetState id false cause none s.ast.freeBlocks) s

/-- A record made EMPTY, its blocks returned. -/
def emptyAsset (id : Nat) (s : State) : State :=
  let r := s.asset id
  { s.putAsset id AssetRec.blank with
    ast := { (s.putAsset id AssetRec.blank).ast with freeBlocks := s.ast.freeBlocks + r.body.blocks } }

/-- A record made EMPTY with its notice. -/
def dropAsset (id : Nat) (cause : AssetCause) (s : State) : State := assetNotice id cause (emptyAsset id s)

/-- Whether an id lies in a link's protection range and is not resident (R71). -/
def State.mayLoad (s : State) (l : Link) (id : Nat) : Bool :=
  8 ≤ id && (s.params l).protBase ≤ id && id ≤ (s.params l).protLimit

/-- The id of a request of the given length, after its form and range. -/
def namedAsset (len : Nat) (p : List Byte) : Except Status Nat :=
  if p.length ≠ len then .error .form else if 511 < half p 0 then .error .range else .ok (half p 0)

/-- The shape an ASSET_BEGIN payload gives. -/
def shapeIn (p : List Byte) : Shape :=
  { width := byteAt p 2, height := byteAt p 3, frames := byteAt p 4, interval := byteAt p 5 }

/-- R71: the record LOADING and its blocks taken; the blocks of a READY picture are returned first. -/
def beginLoad (l : Link) (id : Nat) (h : Shape) (s : State) : State :=
  let free := s.ast.freeBlocks + (s.asset id).body.blocks - shapeBlocks h
  let t := s.putAsset id { body := .loading h l [] 0, refs := (s.asset id).refs }
  { t with ast := { t.ast with freeBlocks := free } }

def doAssetBegin (l : Link) (p : List Byte) (s : State) : Answer :=
  match namedAsset 6 p with
  | .error e => refuse e s
  | .ok id =>
    let r := s.asset id
    if !s.mayLoad l id then refuse .denied s
    else if !shapeOk (shapeIn p) then refuse .range s
    else if (match r.body with
        | .loading .. => true
        | .ready .. => decide (0 < r.refs)
        | .empty => false) then refuse .inUse s
    else if s.ast.freeBlocks + r.body.blocks < shapeBlocks (shapeIn p) then refuse .noSpace s
    else ⟨beginLoad l id (shapeIn p) s, .ok, .assetBegun (shapeTotal (shapeIn p)) (shapeBlocks (shapeIn p))⟩

def doAssetData (l : Link) (p : List Byte) (s : State) : Answer :=
  if p.length < 7 ∨ 1024 < p.length then refuse .form s
  else if 511 < half p 0 then refuse .range s
  else
    let data := p.drop 6
    match (s.asset (half p 0)).body with
    | .loading h owner got sum =>
      if owner ≠ l then refuse .state s
      else if word p 2 ≠ got.length then ⟨s, .form, .bytesReceived got.length⟩
      else if shapeTotal h < got.length + data.length then refuse .form s
      else
        let body := AssetBody.loading h owner (got ++ data) (sum + byteSum data)
        ⟨s.putAsset (half p 0) { body := body, refs := (s.asset (half p 0)).refs }, .ok,
          .bytesReceived (got.length + data.length)⟩
    | _ => refuse .state s

def doAssetEnd (l : Link) (p : List Byte) (s : State) : Answer :=
  match namedAsset 2 p with
  | .error e => refuse e s
  | .ok id => match (s.asset id).body with
    | .loading h owner got sum =>
      if owner ≠ l then refuse .state s
      else if got.length ≠ shapeTotal h then ⟨dropAsset id .failed s, .form, .empty⟩
      else
        let load := sum / shapeTotal h
        ⟨assetNotice id .loaded (s.putAsset id { body := .ready h got load, refs := 0 }), .ok, .loadFigure load⟩
    | _ => refuse .state s

def doAssetAbort (l : Link) (p : List Byte) (s : State) : Answer :=
  match namedAsset 2 p with
  | .error e => refuse e s
  | .ok id => match (s.asset id).body with
    | .loading _ owner _ _ => if owner ≠ l then refuse .state s else ⟨dropAsset id .aborted s, .ok, .empty⟩
    | _ => refuse .state s

def doAssetDelete (l : Link) (p : List Byte) (s : State) : Answer :=
  match namedAsset 2 p with
  | .error e => refuse e s
  | .ok id =>
    if !s.mayLoad l id then refuse .denied s
    else match (s.asset id).body with
      | .empty => refuse .unknown s
      | .loading .. => refuse .state s
      | .ready .. => if 0 < (s.asset id).refs then refuse .inUse s else ⟨dropAsset id .deleted s, .ok, .empty⟩

def assetReport (id : Nat) (s : State) : AssetReport :=
  let r := s.asset id
  let base : AssetReport :=
    { id := id, loading := false, ready := false, shape := none, total := 0, blocks := 0, link := none, received := none,
      load := none, refs := r.refs, freeBlocks := s.ast.freeBlocks }
  match r.body with
  | .empty => base
  | .loading h l got _ =>
    { base with loading := true, shape := some h, total := shapeTotal h, blocks := shapeBlocks h, link := some l,
                received := some got.length }
  | .ready h _ load =>
    { base with ready := true, shape := some h, total := shapeTotal h, blocks := shapeBlocks h, load := some load }

def doAssetStatus (p : List Byte) (s : State) : Answer :=
  match namedAsset 2 p with
  | .error e => refuse e s
  | .ok id => ⟨s, .ok, .assetStatus (assetReport id s)⟩

/-- Whether a record is being loaded by a link. -/
def AssetBody.loadedBy (l : Link) : AssetBody → Bool
  | .loading _ m _ _ => m == l
  | _ => false

/-- R74: the loads of an ended link, by rising id (log entry 20). -/
def abortLoads (l : Link) (s : State) : State :=
  ((s.ast.directory.filter fun e => e.2.body.loadedBy l).map (·.1)).foldl (fun s id => dropAsset id .linkEnd s) s

end Sys2Proof.Machine
end

