-- ==== Sys2Proof/Machine/Requests.lean ====
section
/-! DEFINITION. The request rows: an owner block executes the request its link handed over and returns (R12). -/

namespace Sys2Proof.Machine

/-- The reply of a request whose owner returned (R12); the reply of a request whose link has ended is discarded (R8). -/
def finish (l : Link) (r : Request) (orphan : Bool) (a : Answer) : State :=
  if orphan then a.state.modLink l fun ls => { ls with executing := .idle }
  else a.state.modLink l fun ls => ls.answer (.reply r.tag r.code a.status a.body)

/-- A request row: the owner of the request of that code, if the link executes one, performs it and returns. A notice that
the request gives enters the transmit queues before its reply (log entry 55). -/
def serve (l : Link) (code : Nat) (mine : List Byte → Bool) (f : List Byte → State → Answer) (s : State) :
    Host.Outcome State Fault Refusal :=
  match s.request l with
  | some (r, orphan) => if r.code.toNat = code ∧ mine r.payload then .next (finish l r orphan (f r.payload s)) else .next s
  | none => .next s

/-! ## Exposure Unit (R141 to R143, R167) -/

def execDefine (l : Link) (s : State) : Host.Outcome State Fault Refusal := serve l 80 (fun _ => true) doDefine s

def execSetTarget (l : Link) (s : State) : Host.Outcome State Fault Refusal := serve l 81 (fun _ => true) doSetTarget s

def execSetHoldback (l : Link) (s : State) : Host.Outcome State Fault Refusal :=
  serve l 82 (fun _ => true) doSetHoldback s

def execClose (l : Link) (s : State) : Host.Outcome State Fault Refusal := serve l 83 (fun _ => true) doClose s

def execReopen (l : Link) (s : State) : Host.Outcome State Fault Refusal := serve l 84 (fun _ => true) doReopen s

def execReadContract (l : Link) (s : State) : Host.Outcome State Fault Refusal :=
  serve l 85 (fun _ => true) doReadContract s

def execReadLog (l : Link) (s : State) : Host.Outcome State Fault Refusal := serve l 90 (fun _ => true) doReadLog s

/-! ## Rotation Engine (R144, R145, R147, R157) -/

def execAddSpot (l : Link) (s : State) : Host.Outcome State Fault Refusal := serve l 86 (fun _ => true) doAddSpot s

def execRemoveSpot (l : Link) (s : State) : Host.Outcome State Fault Refusal :=
  serve l 87 (fun _ => true) doRemoveSpot s

def execSetTrigger (l : Link) (s : State) : Host.Outcome State Fault Refusal :=
  serve l 88 (fun _ => true) doSetTrigger s

def execClearTrigger (l : Link) (s : State) : Host.Outcome State Fault Refusal :=
  serve l 89 (fun _ => true) doClearTrigger s

def execRotationStatus (l : Link) (s : State) : Host.Outcome State Fault Refusal :=
  serve l 9 (fun _ => true) doRotationStatus s

/-! ## Zone Manager (R40, R51, R99) -/

def execShow (l : Link) (s : State) : Host.Outcome State Fault Refusal := serve l 41 (fun _ => true) doShow s

def execHide (l : Link) (s : State) : Host.Outcome State Fault Refusal := serve l 42 (fun _ => true) doHide s

def execTakeover (l : Link) (s : State) : Host.Outcome State Fault Refusal :=
  serve l 43 (fun _ => true) (doTakeover l) s

def execReleaseTakeover (l : Link) (s : State) : Host.Outcome State Fault Refusal :=
  serve l 44 (fun _ => true) (doReleaseTakeover l) s

def execZoneStatus (l : Link) (s : State) : Host.Outcome State Fault Refusal :=
  serve l 4 (fun _ => true) doZoneStatus s

/-! ## Cue Sequencer (R111, R112, R118, R119, R122) -/

def execQueueCue (l : Link) (s : State) : Host.Outcome State Fault Refusal := serve l 48 (fun _ => true) doQueueCue s

def execPlay (l : Link) (s : State) : Host.Outcome State Fault Refusal := serve l 49 (fun _ => true) doPlay s

def execStopCue (l : Link) (s : State) : Host.Outcome State Fault Refusal := serve l 50 (fun _ => true) doStopCue s

def execFlush (l : Link) (s : State) : Host.Outcome State Fault Refusal := serve l 51 (fun _ => true) doFlush s

def execCueStatus (l : Link) (s : State) : Host.Outcome State Fault Refusal :=
  serve l 7 (fun _ => true) (doCueStatus l) s

/-! ## Message Engine (R126, R132, R133, R135, R137) -/

def execPostMessage (l : Link) (s : State) : Host.Outcome State Fault Refusal :=
  serve l 64 (fun p => !isEvacuate p) (doPostMessage l) s

def execPostEvacuate (l : Link) (s : State) : Host.Outcome State Fault Refusal :=
  serve l 64 isEvacuate doPostEvacuate s

def execCancelMessage (l : Link) (s : State) : Host.Outcome State Fault Refusal :=
  serve l 65 (fun _ => true) (doCancelMessage l) s

def execClearEvacuate (l : Link) (s : State) : Host.Outcome State Fault Refusal :=
  serve l 66 (fun _ => true) doClearEvacuate s

def execMessageStatus (l : Link) (s : State) : Host.Outcome State Fault Refusal :=
  serve l 8 (fun _ => true) doMessageStatus s

/-! ## Clock and Score Unit (R87 to R91, R93, R96, R101, R102) -/

def execSetClock (l : Link) (s : State) : Host.Outcome State Fault Refusal := serve l 32 (fun _ => true) doSetClock s

def execStartClock (l : Link) (s : State) : Host.Outcome State Fault Refusal :=
  serve l 33 (fun _ => true) doStartClock s

def execStopClock (l : Link) (s : State) : Host.Outcome State Fault Refusal :=
  serve l 34 (fun _ => true) doStopClock s

def execAdjustClock (l : Link) (s : State) : Host.Outcome State Fault Refusal :=
  serve l 35 (fun _ => true) doAdjustClock s

def execResetShot (l : Link) (s : State) : Host.Outcome State Fault Refusal :=
  serve l 36 (fun _ => true) doResetShot s

def execApplyCapture (l : Link) (s : State) : Host.Outcome State Fault Refusal :=
  serve l 37 (fun _ => true) doApplyCapture s

def execHorn (l : Link) (s : State) : Host.Outcome State Fault Refusal := serve l 38 (fun _ => true) doHorn s

def execSetScore (l : Link) (s : State) : Host.Outcome State Fault Refusal := serve l 39 (fun _ => true) doSetScore s

def execAddScore (l : Link) (s : State) : Host.Outcome State Fault Refusal := serve l 40 (fun _ => true) doAddScore s

def execClockStatus (l : Link) (s : State) : Host.Outcome State Fault Refusal :=
  serve l 6 (fun _ => true) doClockStatus s

/-! ## Feed Monitor (R171, R177, R182) -/

def execSetRange (l : Link) (s : State) : Host.Outcome State Fault Refusal := serve l 99 (fun _ => true) doSetRange s

def execReleaseFeed (l : Link) (s : State) : Host.Outcome State Fault Refusal :=
  serve l 100 (fun _ => true) doReleaseFeed s

def execMonitorStatus (l : Link) (s : State) : Host.Outcome State Fault Refusal :=
  serve l 3 (fun _ => true) doMonitorStatus s

/-! ## Output Scan Unit (R26, R27) -/

def execSetDark (l : Link) (s : State) : Host.Outcome State Fault Refusal := serve l 96 (fun _ => true) doSetDark s

def execSetLit (l : Link) (s : State) : Host.Outcome State Fault Refusal := serve l 97 (fun _ => true) doSetLit s

def execTestFrame (l : Link) (s : State) : Host.Outcome State Fault Refusal := serve l 98 (fun _ => true) doTestFrame s

/-! ## Compositor (R66) -/

def execPlanStatus (l : Link) (s : State) : Host.Outcome State Fault Refusal := serve l 5 (fun _ => true) doPlanStatus s

/-! ## Asset Store (R71 to R75, R80) -/

def execAssetBegin (l : Link) (s : State) : Host.Outcome State Fault Refusal :=
  serve l 16 (fun _ => true) (doAssetBegin l) s

def execAssetData (l : Link) (s : State) : Host.Outcome State Fault Refusal :=
  serve l 17 (fun _ => true) (doAssetData l) s

def execAssetEnd (l : Link) (s : State) : Host.Outcome State Fault Refusal :=
  serve l 18 (fun _ => true) (doAssetEnd l) s

def execAssetAbort (l : Link) (s : State) : Host.Outcome State Fault Refusal :=
  serve l 19 (fun _ => true) (doAssetAbort l) s

def execAssetDelete (l : Link) (s : State) : Host.Outcome State Fault Refusal :=
  serve l 20 (fun _ => true) (doAssetDelete l) s

def execAssetStatus (l : Link) (s : State) : Host.Outcome State Fault Refusal :=
  serve l 21 (fun _ => true) doAssetStatus s

end Sys2Proof.Machine
end

