-- ==== Sys2Proof/Machine/Image.lean ====
section
/-! DEFINITION. The configuration image: the checks of R185 with the layout of R191, and the image write of R188. -/

namespace Sys2Proof.Machine

/-! ## Checks 1 to 4: the header -/

/-- The image length the header gives. -/
def headerLength (b : List Byte) : Nat := word b 8

/-- Whether the CRC-32 over bytes 16 to image length − 1 matches the header; a region that ends before does not. -/
def crcMatches (b : List Byte) : Bool :=
  headerLength b ≤ b.length && crc32 ((b.drop 16).take (headerLength b - 16)) == word b 12

/-- The first of checks 1 to 4 that fails. -/
def headerFault (b : List Byte) : Option FaultCause :=
  if !(byteAt b 0 == 75 && byteAt b 1 == 66 && byteAt b 2 == 50 && byteAt b 3 == 52) then some .noImage
  else if half b 4 ≠ 1 then some .version
  else if headerLength b < 64 ∨ 8388608 < headerLength b then some .length
  else if !crcMatches b then some .crc
  else none

/-! ## Check 5: the directory -/

/-- The kind, offset and length of a directory entry. -/
def entryOf (b : List Byte) (i : Nat) : Nat × Nat × Nat :=
  (word b (16 + 12 * i), word b (20 + 12 * i), word b (24 + 12 * i))

/-- Whether an entry fails; `seen` are the kinds of the entries before it. Of two entries of one kind the later fails, and a
section of length 0 overlaps nothing (log entry 63). -/
def entryFails (len : Nat) (seen : List Nat) (e : Nat × Nat × Nat) : Bool :=
  e.1 < 1 || 10 < e.1 || seen.contains e.1 || len < e.2.1 + e.2.2 || (e.2.1 < 136 && 0 < e.2.2)

/-- The kind of the first failing entry. -/
def firstFailing (len : Nat) : List Nat → List (Nat × Nat × Nat) → Option Nat
  | _, [] => none
  | seen, e :: l => if entryFails len seen e then some e.1 else firstFailing len (seen ++ [e.1]) l

/-- Check 5: the fault record it gives. -/
def directoryFault (b : List Byte) : Option FaultRecord :=
  if half b 6 ≠ 10 ∨ headerLength b < 136 then some ⟨.sectionTable, none⟩
  else (firstFailing (headerLength b) [] ((List.range 10).map (entryOf b))).map fun k => ⟨.sectionTable, some k⟩

/-! ## Check 6: the sections, by kind -/

/-- No number stands twice in a list. -/
def distinct : List Nat → Bool
  | [] => true
  | a :: l => !l.contains a && distinct l

/-- R18. -/
def geometryOk (g : Geometry) : Bool :=
  1 ≤ g.width && g.width ≤ 64 && 1 ≤ g.height && g.height ≤ 32 && (g.frameRate == 50 || g.frameRate == 60) &&
    g.tiles.all (fun t => t.col < g.width && t.row < g.height && t.chain ≤ 47 && t.position ≤ 63 && t.feed ≤ 3) &&
    g.tiles.length == g.width * g.height && distinct (g.tiles.map fun t => t.row * 64 + t.col) &&
    distinct (g.tiles.map fun t => t.chain * 64 + t.position)

def calOk (c : Nat) : Bool := 512 ≤ c && c ≤ 1536

/-- R170: one range of a current channel. -/
def rangeSetOk (r : RangeSet) : Bool := calOk r.cal && r.low < r.high && r.high < r.trip && r.trip ≤ 6142

/-- R170: a voltage channel. -/
def voltageOk (v : VoltageCfg) : Bool := calOk v.cal && v.tripUnder < v.sag && v.sag < v.recover && v.recover ≤ 6142

def feedTableOk (t : FeedTable) : Bool :=
  t.currents.toList.all (fun c => rangeSetOk c.lowSet && rangeSetOk c.highSet) && t.voltages.toList.all voltageOk

/-- R172. -/
def governorOk (g : Governor) : Bool :=
  32 ≤ g.dMin && g.dMin ≤ 256 && 1 ≤ g.step && g.step ≤ 64 && 1 ≤ g.nStress && g.nStress ≤ 15 && 1 ≤ g.nRelief &&
    g.nRelief ≤ 15

/-- R172, R174. -/
def governorTableOk (t : GovernorTable) : Bool :=
  t.feeds.toList.all governorOk && t.settle ≤ 63 && t.sample ≤ 255 && [1, 2, 4, 8, 16, 32, 64].contains t.average

/-- R1. -/
def linkOk (p : LinkParams) : Bool :=
  [115200, 460800, 1000000, 3000000].contains p.baud && 100 ≤ p.keepalive && p.keepalive ≤ 10000 && p.holdOver ≤ 60 &&
    p.protBase ≤ 511 && p.protLimit ≤ 511

/-- R1, R105. -/
def linkTableOk (t : LinkTable) : Bool :=
  t.links.toList.all linkOk &&
    (match t.streamOwner with
      | none => true
      | some n => match index? 4 n with
        | some l => (t.links[l]).role == .replay
        | none => false) &&
    1 ≤ t.preroll && t.preroll ≤ 60 && 1 ≤ t.freezeLimit && t.freezeLimit ≤ 250

/-- R35. -/
def classMapOk (m : ClassMap) : Bool :=
  m.main ≤ 6 && m.sponsor ≤ 6 && m.message ≤ 6 && m.clock ≤ 6 && m.score ≤ 6

/-- R32, R33: one zone record. A SCORE zone's counter list may name a counter twice (log entry 53). -/
def zoneOk (g : Geometry) (z : ZoneId) (c : ZoneCfg) : Bool :=
  1 ≤ c.width && 1 ≤ c.height && c.col + c.width ≤ g.width && c.row + c.height ≤ g.height &&
    ((c.cls == .emergency) == (z == 15)) &&
    (z != 15 || (c.col == 0 && c.row == 0 && c.width == g.width && c.height == g.height)) &&
    (if c.cls = .main then c.gap ≤ 7 else c.gap == 0) && (!c.alert || c.cls == .main) &&
    (match c.fallback with
      | none => true
      | some a => a ≤ 7 && !isCounterZone c.cls && z != 15) &&
    (!(isCounterZone c.cls || c.cls == .main) || (c.level ≤ 255 && c.load ≤ 255)) &&
    (c.cls != .clock || c.clockSource ≤ 2) &&
    (c.cls != .score || (1 ≤ c.counters.length && c.counters.length ≤ 8 && c.counters.all (· ≤ 15)))

/-- R33: the zone table. -/
def zonesOk (im : Image) : Bool :=
  let mains := (allFin 16).filter fun z => (im.zones[z]).cls == .main
  let alerts := (allFin 16).filter fun z => (im.zones[z]).alert
  (allFin 16).all (fun z => zoneOk im.geometry z im.zones[z]) && mains.length ≤ 2 &&
    alerts.length == (if mains.isEmpty then 0 else 1)

/-- The members of a mirror group. -/
def members (m : MirrorGroup) : List Nat := m.leader :: m.followers

/-- R33: the mirror groups. -/
def groupsOk (im : Image) : Bool :=
  let groups := im.groups.toList.filterMap id
  groups.all (fun m => 1 ≤ m.followers.length && m.followers.length ≤ 4 &&
      (members m).all fun n => match index? 16 n with
        | some z => (im.zones[z]).cls == .sponsor
        | none => false) &&
    distinct (groups.flatMap members)

/-- R84. -/
def clockOk (c : ClockCfg) : Bool :=
  1 ≤ c.limit && c.limit ≤ 5999999 && c.warning ≤ c.limit && c.reset ≤ c.limit

def clockTableOk (t : ClockTable) : Bool :=
  t.clocks.toList.all clockOk && !(t.clocks[(0 : Fin 3)]).linked && t.stopFilter ≤ 15 &&
    (match t.period with
      | none => true
      | some k => k ≤ 15)

/-- R134. -/
def alarmOk (a : AlarmCfg) : Bool := a.asset ≤ 7 && 10 ≤ a.filter && a.filter ≤ 250

/-- R69, R81. -/
def residentsOk (l : List ResidentCfg) : Bool :=
  l.all (fun r => r.id ≤ 7 && shapeOk r.shape && r.data.length == shapeTotal r.shape) && distinct (l.map (·.id))

/-- Check 6 for one kind of section. -/
def sectionOk (im : Image) (kind : Nat) : Bool :=
  !im.undecodable.contains kind && match kind with
    | 1 => geometryOk im.geometry
    | 2 => feedTableOk im.feedTable
    | 3 => governorTableOk im.governor
    | 4 => linkTableOk im.linkTable
    | 5 => classMapOk im.classMap
    | 6 => zonesOk im
    | 7 => groupsOk im
    | 8 => clockTableOk im.clocks
    | 9 => alarmOk im.alarm
    | _ => residentsOk im.residents

/-- Check 6: the first section that fails. -/
def sectionFault (im : Image) : Option FaultRecord :=
  ((List.range 10).map (· + 1)).find? (fun k => !sectionOk im k) |>.map fun k => ⟨.check, some k⟩

/-! ## Check 7 -/

/-- The ids named as zone fallbacks, by zone. -/
def fallbackIds (im : Image) : List Nat := im.zones.toList.filterMap (·.fallback)

/-- Check 7: every fallback and the alarm asset is held in the resident section. -/
def residentFault (im : Image) : Option FaultRecord :=
  let held := im.residents.map (·.id)
  if (fallbackIds im).any fun a => !held.contains a then some ⟨.check, some 6⟩
  else if !held.contains im.alarm.asset then some ⟨.check, some 9⟩
  else none

/-- R185: the checks in order, on the bytes of a region and the values they give their sections. -/
def imageFault (b : List Byte) (im : Image) : Option FaultRecord :=
  match headerFault b with
  | some c => some ⟨c, none⟩
  | none => match directoryFault b with
    | some f => some f
    | none => match sectionFault im with
      | some f => some f
      | none => residentFault im

/-! ## The values of the sections (R191) -/

/-- The bytes of the section of a kind, found by the first directory entry that names the kind. -/
def sectionBytes (b : List Byte) (kind : Nat) : List Byte :=
  match ((List.range 10).map (entryOf b)).find? (·.1 == kind) with
  | some e => (b.drop e.2.1).take e.2.2
  | none => []

/-- The values some bytes spell as a section of a kind: by the known part of the layout, else free (log entry 8). -/
def valuesIn (layout : SectionLayout) (kind : Nat) (b : List Byte) : Image :=
  match layout.find? fun e => e.1 == kind && e.2.1 == b with
  | some e => e.2.2
  | none => Config.sectionValues kind b

/-- The values of an image: of each section those its own bytes spell. Bytes outside every section give nothing. -/
def imageOf (layout : SectionLayout) (b : List Byte) : Image :=
  let v := fun kind => valuesIn layout kind (sectionBytes b kind)
  { geometry := (v 1).geometry, feedTable := (v 2).feedTable, governor := (v 3).governor, linkTable := (v 4).linkTable,
    classMap := (v 5).classMap, zones := (v 6).zones, groups := (v 7).groups, clocks := (v 8).clocks,
    alarm := (v 9).alarm, residents := (v 10).residents,
    undecodable := ((List.range 10).map (· + 1)).filter fun kind => (v kind).undecodable.contains kind }

/-- What CONFIG_READ finds in the flash: the fault record, or the image; `n` counts the free readings (R188). -/
def readFlash (n : Nat) (layout : SectionLayout) : Flash → Except FaultRecord Image
  | .silent => .error ⟨.noImage, none⟩
  | .incomplete => .error ⟨if Config.incompleteFailsCrc n then .crc else .noImage, none⟩
  | .holds b => match imageFault b (imageOf layout b) with
    | some f => .error f
    | none => .ok (imageOf layout b)

/-! ## Restart pending (R189) -/

/-- An OK reply to RESTART. -/
def TxFrame.restarts : TxFrame → Bool
  | .reply _ code status _ => code == 112 && status == .ok
  | .notice _ => false

/-- Whether a link holds an OK RESTART reply not yet sent. -/
def LinkState.restarts (l : LinkState) : Bool :=
  l.tx.any TxFrame.restarts || match l.executing with
    | .replyWaiting f => f.restarts
    | _ => false

/-- R189: a restart is pending. -/
def State.restartPending (s : State) : Bool := s.links.toList.any LinkState.restarts

/-- Whether an OK RESTART reply is the frame some link's transmitter is sending. -/
def State.restartSending (s : State) : Bool :=
  s.links.toList.any fun l => match l.sending with
    | some f => f.restarts
    | none => false

/-! ## The image write (R188) -/

def setStaging (g : Staging) (s : State) : State := { s with cfl := { s.cfl with staging := g } }

def startStatus (s : State) : ReplyBody := .startStatus s.cfl.startup s.cfl.fault

def doWriteImageBegin (l : Link) (p : List Byte) (s : State) : Answer :=
  if p.length ≠ 4 then refuse .form s
  else if word p 0 < 64 ∨ 8388608 < word p 0 then refuse .range s
  else match s.cfl.staging with
    | .idle => ⟨setStaging (.receiving l (word p 0) [] 0) s, .ok, startStatus s⟩
    | _ => ⟨s, .state, startStatus s⟩

def execWriteImageBegin (l : Link) (s : State) : Host.Outcome State Fault Refusal :=
  serve l 113 (fun _ => true) (doWriteImageBegin l) s

/-- WRITE_IMAGE_DATA (R188). R193 answers a wrong length FORM, R188 a request of another link, or one that finds no write
RECEIVING, STATE, and nothing orders the two: that the length is tested first is the model's choice (log entry 73). -/
def doWriteImageData (l : Link) (p : List Byte) (s : State) : Answer :=
  if p.length < 5 ∨ 1022 < p.length then refuse .form s
  else match s.cfl.staging with
    | .receiving w len got _ =>
      if w ≠ l then refuse .state s
      else
        let data := p.drop 4
        if word p 0 ≠ got.length ∨ len < got.length + data.length then
          ⟨setStaging (.receiving w len got 0) s, .form, .empty⟩
        else ⟨setStaging (.receiving w len (got ++ data) 0) s, .ok, .bytesReceived (got.length + data.length)⟩
    | _ => refuse .state s

def execWriteImageData (l : Link) (s : State) : Host.Outcome State Fault Refusal :=
  serve l 114 (fun _ => true) (doWriteImageData l) s

/-- Whether a WRITE_IMAGE_END passes: the length announced is received and stands in the header, and checks 1 to 4
pass. -/
def stagedPasses (len : Nat) (got : List Byte) : Bool :=
  got.length == len && headerLength got == len && (headerFault got).isNone

/-- A WRITE_IMAGE_END that does not pass. That a wrong length (FORM, R193) is answered before a STATE condition of R188
(another link, no write RECEIVING, a restart pending) is the model's choice (log entry 73). -/
def refuseImageEnd (l : Link) (p : List Byte) (s : State) : Answer :=
  if p.length ≠ 0 then refuse .form s
  else match s.cfl.staging with
    | .receiving w _ _ _ =>
      if w ≠ l ∨ s.restartPending then refuse .state s else ⟨setStaging .idle s, .form, .empty⟩
    | _ => refuse .state s

/-- The staged data a WRITE_IMAGE_END of a link puts to programming. -/
def programs (l : Link) (p : List Byte) (s : State) : Option (List Byte) :=
  match s.cfl.staging with
  | .receiving w len got _ =>
    if p.length = 0 ∧ w = l ∧ s.restartPending = false ∧ stagedPasses len got then some got else none
  | _ => none

/-- Whether a link's own image is being programmed: its WRITE_IMAGE_END stays executing until it ends. -/
def State.programming (s : State) (l : Link) : Bool :=
  match s.cfl.staging with
  | .programming w _ => w == l
  | _ => false

def execWriteImageEnd (l : Link) (s : State) : Host.Outcome State Fault Refusal :=
  match s.request l with
  | some (r, orphan) =>
    if r.code.toNat ≠ 115 ∨ s.programming l then .next s
    else match programs l r.payload s with
      | some d => .next (setStaging (.programming l d) s)
      | none => .next (finish l r orphan (refuseImageEnd l r.payload s))
  | none => .next s

/-- What the region holds when programming has ended. -/
def flashAfter (r : ProgramResult) (d : List Byte) : Flash :=
  match r with
  | .programmed => .holds d
  | .verifyFailed => .incomplete

def execFlashProgrammingComplete (res : ProgramResult) (s : State) : Host.Outcome State Fault Refusal :=
  match s.cfl.staging with
  | .programming w d =>
    let s := { s with cfl := { s.cfl with staging := .idle, flash := flashAfter res d } }
    match s.request w with
    | some (r, orphan) => if r.code.toNat = 115 then .next (finish w r orphan ⟨s, .ok, .programmed res⟩) else .next s
    | none => .next s
  | _ => .next s

end Sys2Proof.Machine
end

