-- ==== Sys2Proof/Machine/Startup.lean ====
section
/-! DEFINITION. Start-up: cold start, CONFIG_READ, RESIDENT_LOAD, entry to RUN and to SAFE, and the warm restart
(section 12, and the reset rules of the other sections). -/

namespace Sys2Proof.Machine

/-! ## Cold start (R186) -/

/-- The flash region after a cold start, `f` being what it holds otherwise: programming that the cold start interrupts
leaves it half programmed, and a region half programmed before stays so until it is programmed again (R188). -/
def flashAtReset (f : Flash) (s : State) : Flash :=
  match s.cfl.staging, s.cfl.flash with
  | .programming _ _, _ => .incomplete
  | _, .incomplete => .incomplete
  | _, _ => f

/-- POWER_UP with every block at its cold-start values, on the flash given. -/
def coldStart (f : Flash) (layout : SectionLayout) (s : State) : State :=
  { State.reset with
    cfl := { State.reset.cfl with flash := flashAtReset f s, layout := layout }
    freeCount := s.freeCount
    pending := s.pending }

def execColdStart (c : ColdCause) (s : State) : Host.Outcome State Fault Refusal :=
  match c with
  | .powerOn f layout => .next (coldStart f layout s)
  | .resetLine us => if us < 10 then .next s else .next (coldStart s.cfl.flash s.cfl.layout s)

def execPowerUpExit (s : State) : Host.Outcome State Fault Refusal :=
  if s.cfl.startup = .powerUp then .next { s with cfl := { s.cfl with startup := .configRead } } else .next s

/-! ## Values taken from the image -/

/-- A clock's settings from the image at a cold start (R103). -/
def clockOfImage (k : ClockRec) (c : ClockCfg) : ClockRec :=
  { k with dir := c.dir, limit := c.limit, linked := c.linked, warning := c.warning, horn := c.horn, reset := c.reset }

def periodOf (im : Image) : Option CounterId := im.clocks.period.bind (index? 16)

/-- CSU's settings when CONFIG_READ succeeds at a cold start (R103). -/
def csuCold (im : Image) (c : Csu) : Csu :=
  { c with
    clocks := Vector.ofFn fun i => clockOfImage c.clocks[i] im.clocks.clocks[i]
    stopFilter := im.clocks.stopFilter
    period := periodOf im }

/-- A clock across a warm restart (R104); `first` is that the clocks still hold the SAFE values. -/
def clockWarm (first shot : Bool) (k : ClockRec) (c : ClockCfg) : ClockRec :=
  let k := if first then { k with dir := c.dir, limit := c.limit, linked := c.linked } else k
  let k := { k with warning := min c.warning k.limit, horn := c.horn,
                    reset := if shot then min c.reset k.limit else k.reset }
  { k with armed := k.arm }

/-- CSU's settings when a warm restart reaches RUN (R104). That the earlier ones stand until then is the model's choice
(log entry 72). -/
def csuWarm (first : Bool) (im : Image) (c : Csu) : Csu :=
  { c with
    clocks := Vector.ofFn fun i => clockWarm first (i == 1) c.clocks[i] im.clocks.clocks[i]
    stopFilter := im.clocks.stopFilter
    period := periodOf im }

/-- A channel from the image (R183), at its initial range after a restart too (R184, log entry 49). -/
def channelOf (im : Image) (i : ChannelId) : Channel :=
  if h : i.val < 4 then
    let c := im.feedTable.currents[i.val]
    { enabled := c.enabled, selected := c.initial, effect := c.initial, setting := .current c.lowSet c.highSet,
      last := none }
  else
    let v := im.feedTable.voltages[i.val - 4]
    { enabled := v.enabled, selected := .low, effect := .low, setting := .voltage v.cal v.tripUnder v.sag v.recover,
      last := none }

/-- A feed from the image (R172, R183); a feed TRIPPED before stays so, at the image's d_min (R184). -/
def feedOf (im : Image) (tripped : Bool) (i : FeedId) : Feed :=
  let g := im.governor.feeds[i]
  { budget := min im.feedTable.budgets[i] 2048, derate := if tripped then g.dMin else 256, dMin := g.dMin, step := g.step,
    nStress := g.nStress, nRelief := g.nRelief, stressRun := 0, reliefRun := 0, tripRun := 0, tripped := tripped }

/-- LVA's last result as a restart leaves it (R183, R184); sums of 0 are the model's choice (log entry 62). -/
def lvaOf (feeds : Vector Feed 4) : LvaResult :=
  { num := 0,
    feeds := Vector.ofFn fun i =>
      if (feeds[i]).tripped then { state := .tripped, budget := 0, held := 0, free := 0, scale := 0 }
      else { state := .normal, budget := (feeds[i]).budget, held := 0, free := 0, scale := 256 } }

/-- FMN and LVA with the image's settings (R183, R184). -/
def fmnOf (im : Image) (old : Fmn) : Fmn :=
  let feeds := Vector.ofFn fun i => feedOf im (old.feeds[i]).tripped i
  { channels := Vector.ofFn (channelOf im), feeds := feeds, settle := im.governor.settle, sample := im.governor.sample,
    average := im.governor.average, scan := none, skipped := 0, lva := lvaOf feeds }

/-- FMN in SAFE: no image values, the TRIPPED states kept (R183, R184). LVA's last result then is the model's choice (log
entry 62). -/
def fmnSafe (old : Fmn) : Fmn :=
  { Fmn.reset with feeds := Vector.ofFn fun i => { Feed.reset with tripped := (old.feeds[i]).tripped } }

/-! ## Entry to SAFE (R29, R94, R103, R187) -/

/-- OSU outside RUN: no frame scanned or awaiting scan, the feed lines deasserted. -/
def osuStopped (o : Osu) : Osu := { o with scanning := none, built := none, feedLines := Vector.replicate 4 false }

/-- OSU in SAFE (R29, R30). That every chain reads UNUSED also after a warm restart into SAFE is the model's choice (log
entry 52). -/
def osuSafe (o : Osu) : Osu :=
  { osuStopped o with
    standing := .dark
    testPending := false
    chains := Vector.replicate 48 { state := .unused, badRun := 0, goodRun := 0 } }

/-- CSU's settings in SAFE from a cold start (R103). -/
def csuSafeCold (c : Csu) : Csu :=
  { c with clocks := Vector.replicate 3 ClockRec.initial, stopFilter := 0, period := none }

/-- CQS in SAFE from a cold start: its cold-start values (R123). -/
def cqsSafeCold (c : Cqs) : Cqs := { c with violation := false, discards := 0 }

def enterSafe (f : FaultRecord) (s : State) : State :=
  let csu := if s.cfl.restarting then s.csu else csuSafeCold s.csu
  let cqs := if s.cfl.restarting then s.cqs else cqsSafeCold s.cqs
  { s with
    cfl := { s.cfl with startup := .safe, fault := some f, restarting := false }
    osu := osuSafe s.osu
    csu := { csu with hornTime := 0, hornLine := false }
    cqs := cqs
    fmn := fmnSafe s.fmn }

/-! ## CONFIG_READ (R185) -/

/-- The image accepted: MSE takes its alarm filter time (R138); at a cold start CSU and FMN take their values now (R103,
R183). -/
def acceptImage (im : Image) (s : State) : State :=
  let s := { s with
    cfl := { s.cfl with startup := .residentLoad, fault := none, image := im }
    mse := { s.mse with alarmFilter := im.alarm.filter } }
  if s.cfl.restarting then s else { s with csu := csuCold im s.csu, fmn := fmnOf im s.fmn }

def execConfigReadComplete (s : State) : Host.Outcome State Fault Refusal :=
  if s.cfl.startup = .configRead then
    let t := { s with freeCount := s.freeCount + 1 }
    match readFlash s.freeCount s.cfl.layout s.cfl.flash with
    | .error f => .next (enterSafe f t)
    | .ok im => .next (acceptImage im t)
  else .next s

/-! ## RESIDENT_LOAD (R81, R189) -/

/-- One resident asset loaded; none when its blocks exceed the free count. -/
def loadResident (r : ResidentCfg) (s : State) : Option State :=
  if s.ast.freeBlocks < shapeBlocks r.shape then none
  else
    let body := AssetBody.ready r.shape r.data (byteSum r.data / shapeTotal r.shape)
    let t := s.putAsset r.id { body := body, refs := 0 }
    some { t with ast := { t.ast with freeBlocks := s.ast.freeBlocks - shapeBlocks r.shape } }

/-- The resident assets loaded one after another, with the id at which loading failed. -/
def loadResidents : List ResidentCfg → State → State × Option Nat
  | [], s => (s, none)
  | r :: l, s => match loadResident r s with
    | some t => loadResidents l t
    | none => (s, some r.id)

/-- The residents of an image by rising id. -/
def residentsInOrder (im : Image) : List ResidentCfg :=
  (List.range 8).filterMap fun i => im.residents.find? (·.id == i)

/-- Ids 0 to 7 emptied. -/
def emptyResidents (s : State) : State := (List.range 8).foldl (fun s id => emptyAsset id s) s

/-- The residents kept when the residents-loaded flag is set, loaded when it is clear. -/
def residentLoad (s : State) : State × Option Nat :=
  if s.cfl.residentsLoaded then (s, none) else loadResidents (residentsInOrder s.cfl.image) (emptyResidents s)

/-- The first fallback id, or the alarm asset, that is not READY. -/
def missingResident (s : State) : Option Nat :=
  (fallbackIds s.cfl.image ++ [s.cfl.image.alarm.asset]).find? fun id => !(s.asset id).body.isReady

/-! ## Entry to RUN (R186) -/

/-- A zone record of the rebuilt zone table (R52). -/
def rebuiltZone (s : State) (z : ZoneId) : ZoneRun :=
  let f := fallbackOf (s.zoneCfg z)
  { shown := false, recorded := false, current := if z = 15 then .none else f,
    start := Config.rebuiltStart s.freeCount z.val, pending := none, gapLeft := 0,
    stack := { rotation := f, replay := none, takeover := none, alert := none } }

/-- Whether a zone has a rotation zone record (R149). -/
def rotates (s : State) (z : ZoneId) : Bool :=
  s.isMain z || ((s.zoneCfg z).cls == .sponsor && (s.followerOf z).isNone)

/-- A rotation zone record as RUN is entered (R158); the hold is set when an emergency stands. -/
def RotZone.fresh (hold : Bool) : RotZone :=
  { cursor := none, airing := none, ending := [], hold := hold, fallbackShown := true }

/-- A chain as RUN is entered (R30, R31). -/
def chainAtRun (im : Image) (c : ChainId) : ChainRec :=
  if chainUsed im c.val then ChainRec.fresh else { state := .unused, badRun := 0, goodRun := 0 }

/-- Every reference count 0. -/
def clearRefs (s : State) : State :=
  let d := (s.ast.directory.filter fun e => e.2.body != .empty).map fun e => (e.1, { e.2 with refs := 0 })
  { s with ast := { s.ast with directory := d } }

/-- The references of one zone: its fallback and its current content (R50). -/
def countZone (s : State) (z : ZoneId) : State :=
  let s := match (s.zoneCfg z).fallback with
    | some a => (takeAsset a s).getD s
    | none => s
  takeRef (s.zones[z]).current s

/-- R81, R82: every reference counted afresh from the rebuilt records. -/
def recountRefs (s : State) : State :=
  let s := (allFin 16).foldl countZone (clearRefs s)
  let s := (takeAsset s.cfl.image.alarm.asset s).getD s
  match s.mse.emergency with
  | .linkEvac a => (takeAsset a s).getD s
  | _ => s

/-- The blocks configured for RUN; `first` is that the residents were loaded at this start-up. -/
def configureRun (first : Bool) (s : State) : State :=
  let im := s.cfl.image
  let warm := s.cfl.restarting
  let hold := s.mse.emergency != .none
  let records := Vector.ofFn fun z => if rotates s z then some (RotZone.fresh hold) else none
  { s with
    cfl := { s.cfl with startup := .run, residentsLoaded := true, restarting := false }
    osu := { osuStopped s.osu with standing := .lit, testPending := false, chains := Vector.ofFn (chainAtRun im) }
    zones := Vector.ofFn (rebuiltZone s)
    cmp := Cmp.reset
    csu := if warm then csuWarm first im s.csu else s.csu
    mse := { s.mse with alarmFilter := im.alarm.filter }
    rot := { s.rot with zones := records }
    fmn := fmnOf im s.fmn
    freeCount := s.freeCount + 1 }

/-- R28: the lines of the feeds not TRIPPED asserted. -/
def assertFeedLines (s : State) : State :=
  { s with osu := { s.osu with feedLines := Vector.ofFn fun i => !(s.fmn.feeds[i]).tripped } }

/-- Entry to RUN, with the first frame start. -/
def enterRun (first : Bool) (s : State) : State := frameStart (assertFeedLines (recountRefs (configureRun first s)))

def execResidentLoadComplete (s : State) : Host.Outcome State Fault Refusal :=
  if s.cfl.startup = .residentLoad then
    let r := residentLoad s
    match r.2 with
    | some id => .next (enterSafe ⟨.resident, some id⟩ r.1)
    | none => match missingResident r.1 with
      | some id => .next (enterSafe ⟨.resident, some id⟩ r.1)
      | none => .next (enterRun (!s.cfl.residentsLoaded) r.1)
  else .next s

/-! ## Warm restart (R189) -/

/-- R158: one airing of a record at a warm restart. -/
def restartAiring (z : ZoneId) (s : State) (a : Airing) : State :=
  if a.frames = 0 then withdrawAiring a s else takeRestartMark (a.mark z (s.area z) .cut) s

/-- R158: the airings of a rotation zone record. -/
def restartZone (s : State) (z : ZoneId) : State :=
  match s.rot.zones[z] with
  | some r => (r.ending ++ r.airing.toList).foldl (restartAiring z) s
  | none => s

/-- R158: ROT's part. -/
def restartRotation (s : State) : State :=
  let s := (allFin 16).foldl restartZone s
  let named := s.rot.ring.map (·.contract) ++ s.rot.makegood.map (·.contract) ++ s.rot.insert.map (·.contract)
  let s := named.foldl (fun s c => giveContract c s) s
  { s with rot := { s.rot with ring := [], makegood := [], insert := [], zones := Vector.replicate 16 none } }

/-- R123: one cue at a warm restart. -/
def restartCue (s : State) (q : Cue) : State :=
  let s := match q.closingMark with
    | some m => takeRestartMark m s
    | none => s
  match q.attribution with
  | some c => giveContract c s
  | none => s

/-- R123: CQS's part; the credit-violation flag and the discard count are kept. -/
def restartCues (s : State) : State :=
  let s := s.cqs.queue.foldl restartCue s
  { s with cqs := { Cqs.reset with violation := s.cqs.violation, discards := s.cqs.discards, lane := s.cqs.lane } }

/-- R82: every LOADING record becomes EMPTY. -/
def dropLoads (s : State) : State :=
  let loading := (s.ast.directory.filter fun e => match e.2.body with
    | .loading .. => true
    | _ => false).map (·.1)
  loading.foldl (fun s id => emptyAsset id s) s

/-- A write staging at a warm restart: a RECEIVING write is discarded. -/
def Staging.atRestart : Staging → Staging
  | .receiving .. => .idle
  | g => g

/-- LVA's last result when a composition is abandoned: as before its plan (R181). -/
def lvaAbandoned (s : State) : LvaResult := s.cmp.comp.before.getD s.fmn.lva

/-- R189, steps 1 and 2, up to CONFIG_READ. What the asset reference counts hold from here to the recount of R82 is the
model's choice (log entry 70), and so is the alarm filter time until CONFIG_READ succeeds, which stays the earlier
one (log entry 72). -/
def warmRestart (s : State) : State :=
  let s := { s with
    cfl := { s.cfl with startup := .configRead, restarting := true, staging := s.cfl.staging.atRestart }
    links := Vector.replicate 4 LinkState.reset
    osu := osuStopped s.osu
    cmp := Cmp.reset
    csu := { s.csu with hornTime := 0, hornLine := false }
    fmn := { s.fmn with scan := none, lva := lvaAbandoned s } }
  let s := closeAllByRestart (restartCues (restartRotation s))
  dropLoads { s with
    zones := Vector.replicate 16 ZoneRun.reset
    mse := { s.mse with queue := [], display := none, markMessage := false } }

/-- Whether the part is in RUN or SAFE, where links work. -/
def State.serving (s : State) : Bool := s.cfl.startup == .run || s.cfl.startup == .safe

/-- The warm restart begins when the OK RESTART reply has been sent (R17, R189): the frame whose last byte goes out with
this event is that reply. -/
def execWarmRestartBegin (s : State) : Host.Outcome State Fault Refusal :=
  if s.serving && s.restartSending then .next (warmRestart s) else .next s

end Sys2Proof.Machine
end

