-- ==== Sys2Proof/Machine/Links.lean ====
section
/-! DEFINITION. The Link Controller (section 1): the receiver, link states, the request FIFO, the transmit queue, link
end, and the requests LC executes. -/

namespace Sys2Proof.Machine

/-! ## Arrival of a good frame (R3 to R7, R11) -/

/-- The effect of every good frame on the link (R3, R4, R6). -/
def goodFrame (l : Link) (s : State) : State :=
  let k := some (s.params l).keepalive
  s.modLink l fun ls => match ls.mode with
    | .down => { ls with mode := .helloWait, keepalive := k }
    | .helloWait => { ls with keepalive := k }
    | .up => { ls with keepalive := k }
    | .lapsed => ls

/-- A reply given at arrival. -/
def atArrival (l : Link) (tag code : Byte) (st : Status) (b : ReplyBody) (s : State) : State :=
  s.modLink l fun ls => ls.answerAtArrival (.reply tag code st b)

/-- The identity of R5. -/
def identity (l : Link) (s : State) : ReplyBody :=
  .identity Config.familyCode Config.siliconRevision Config.uniqueNumber (s.params l).role (s.params l).rights s.osu.seq

/-- R105: the stream goes UP with its owner's link, in RUN. -/
def streamWith (l : Link) (s : State) : State := if s.inRun && s.owner == some l then streamUp s else s

/-- R5: a matching HELLO on a link. -/
def admitHello (l : Link) (s : State) : State :=
  let k := some (s.params l).keepalive
  match (s.links[l]).mode with
  | .helloWait => streamWith l (s.modLink l fun ls => { ls with mode := .up })
  | .lapsed => s.modLink l fun ls => { ls with mode := .up, holdOver := none, keepalive := k }
  | _ => s

/-- R5: whether the role a HELLO names counts as the configured role. -/
def roleMatches (l : Link) (r : Role) (s : State) : Bool := s.cfl.startup == .safe || (s.params l).role == r

/-- R5: HELLO, after its effect as a good frame. -/
def takeHello (l : Link) (tag : Byte) (p : List Byte) (s : State) : State :=
  match if p.length = 1 then roleOf (byteAt p 0) else none with
  | none => atArrival l tag 1 .form .empty s
  | some r =>
    if roleMatches l r s then
      let s := admitHello l s
      atArrival l tag 1 .ok (identity l s) s
    else atArrival l tag 1 .denied .empty s

/-- R4, R7, R11: a good REQUEST frame other than HELLO. -/
def takeRequest (l : Link) (r : Request) (s : State) : State :=
  if (s.links[l]).mode ≠ .up then atArrival l r.tag r.code .notUp .empty s
  else if (s.links[l]).entries < 8 then s.modLink l fun ls => { ls with fifo := ls.fifo ++ [r] }
  else atArrival l r.tag r.code .full .empty s

/-- A good frame handled. -/
def handleFrame (l : Link) (kind : Nat) (r : Request) (s : State) : State :=
  let s := goodFrame l s
  if kind ≠ 1 then s else if r.code = 1 then takeHello l r.tag r.payload s else takeRequest l r s

/-! ## The receiver (R2, R190) -/

/-- What the received bytes hold from the first sync byte on. -/
inductive Framing
  | more (rest : List Byte)
  | badLength (rest : List Byte)
  | bad (rest : List Byte)
  | good (kind : Nat) (request : Request) (rest : List Byte)
deriving DecidableEq, Repr

/-- R2: one look at the received bytes. After a discarded frame hunting starts at the byte after its sync byte. -/
def framing (bytes : List Byte) : Framing :=
  let b := bytes.dropWhile (· != 165)
  if b.length < 3 then .more b
  else
    let len := half b 1
    if 1024 < len then .badLength b.tail
    else if b.length < 8 + len then .more b
    else
      let kind := byteAt b 3
      if crc16 ((b.drop 1).take (5 + len)) ≠ half b (6 + len) ∨ kind < 1 ∨ 3 < kind then .bad b.tail
      else
        .good kind { tag := b.getD 4 0, code := b.getD 5 0, payload := (b.drop 6).take len } (b.drop (8 + len))

/-- A frame error counted. -/
def frameError (l : Link) (s : State) : State := s.modLink l fun ls => { ls with frameErrors := bump 65535 ls.frameErrors }

/-- The received bytes taken as frames; every look but the last uses up a byte. -/
def receive (l : Link) : Nat → List Byte → State → State
  | 0, bytes, s => s.modLink l fun ls => { ls with rx := bytes }
  | fuel + 1, bytes, s => match framing bytes with
    | .more rest => s.modLink l fun ls => { ls with rx := rest }
    | .badLength rest => receive l fuel rest (frameError l s)
    | .bad rest => receive l fuel rest (frameError l s)
    | .good kind r rest => receive l fuel rest (handleFrame l kind r s)

/-- Bytes arriving on a link's line; the receivers ignore the line outside RUN and SAFE (R17). -/
def arrive (l : Link) (bytes : List Byte) (s : State) : State :=
  if s.serving then
    let all := (s.links[l]).rx ++ bytes
    receive l (all.length + 1) all s
  else s

def execFrameReceive (l : Link) (bytes : List Byte) (s : State) : Host.Outcome State Fault Refusal :=
  .next (arrive l bytes s)

/-- Whether the next frame on a line is a bad-length frame. -/
def badLengthNext (l : Link) (bytes : List Byte) (s : State) : Bool :=
  match framing ((s.links[l]).rx ++ bytes) with
  | .badLength _ => true
  | _ => false

def execBadLengthFrame (l : Link) (bytes : List Byte) (s : State) : Host.Outcome State Fault Refusal :=
  if badLengthNext l bytes s then .next (arrive l bytes s) else .next s

/-- A good HELLO frame arriving (R5). -/
def execHello (l : Link) (tag : Byte) (p : List Byte) (s : State) : Host.Outcome State Fault Refusal :=
  if s.serving then .next (handleFrame l 1 { tag := tag, code := 1, payload := p } s) else .next s

/-! ## LINK_STATUS (R16) and RESTART (R189) -/

/-- R16; a link that lapsed since its LINK_STATUS started reports LAPSED (log entry 51). -/
def linkReport (l : Link) (s : State) : LinkReport :=
  let ls := s.links[l]
  { link := l, mode := ls.mode, params := s.params l, frameErrors := ls.frameErrors, requests := ls.entries,
    notices := ls.noticeCount, overrun := ls.overrun, subscriptions := subscriptionField (s.params l).subs }

def doLinkStatus (l : Link) (p : List Byte) (s : State) : Answer :=
  if p.length ≠ 0 then refuse .form s
  else ⟨s.modLink l fun ls => { ls with overrun := false }, .ok, .linkStatus (linkReport l s)⟩

def execLinkStatus (l : Link) (s : State) : Host.Outcome State Fault Refusal :=
  serve l 2 (fun _ => true) (doLinkStatus l) s

def doRestart (p : List Byte) (s : State) : Answer :=
  if p.length ≠ 0 then refuse .form s
  else match s.cfl.staging with
    | .programming _ _ => refuse .state s
    | _ => ⟨s, .ok, .empty⟩

/-- R189: RESTART; an accepted one whose link has ended since loses its reply, and the warm restart begins. -/
def execRestart (l : Link) (s : State) : Host.Outcome State Fault Refusal :=
  match s.request l with
  | some (r, orphan) =>
    if r.code.toNat = 112 then
      let a := doRestart r.payload s
      if orphan ∧ a.status = .ok then .next (warmRestart (finish l r orphan a)) else .next (finish l r orphan a)
    else .next s
  | none => .next s

/-! ## A request whose link ends while it executes (R8) -/

/-- The rows that execute requests, with their codes (R190). Code 64 has two; each acts on its own payloads
only. RESTART stands here with its reply alone: the warm restart a lost reply begins is `linkEnd`'s. -/
def ownerRows : List (Nat × (Link → State → Host.Outcome State Fault Refusal)) :=
  [(2, execLinkStatus), (3, execMonitorStatus), (4, execZoneStatus), (5, execPlanStatus), (6, execClockStatus),
    (7, execCueStatus), (8, execMessageStatus), (9, execRotationStatus), (16, execAssetBegin), (17, execAssetData),
    (18, execAssetEnd), (19, execAssetAbort), (20, execAssetDelete), (21, execAssetStatus)] ++
  [(32, execSetClock), (33, execStartClock), (34, execStopClock), (35, execAdjustClock), (36, execResetShot),
    (37, execApplyCapture), (38, execHorn), (39, execSetScore), (40, execAddScore), (41, execShow), (42, execHide),
    (43, execTakeover), (44, execReleaseTakeover), (48, execQueueCue), (49, execPlay), (50, execStopCue),
    (51, execFlush)] ++
  [(64, execPostMessage), (64, execPostEvacuate), (65, execCancelMessage), (66, execClearEvacuate), (80, execDefine),
    (81, execSetTarget), (82, execSetHoldback), (83, execClose), (84, execReopen), (85, execReadContract),
    (86, execAddSpot), (87, execRemoveSpot), (88, execSetTrigger), (89, execClearTrigger), (90, execReadLog)] ++
  [(96, execSetDark), (97, execSetLit), (98, execTestFrame), (99, execSetRange), (100, execReleaseFeed),
    (112, fun l => serve l 112 (fun _ => true) doRestart), (113, execWriteImageBegin), (114, execWriteImageData),
    (115, execWriteImageEnd)]

/-- What a row leaves. -/
def leftBy (o : Host.Outcome State Fault Refusal) (s : State) : State :=
  match o with
  | .next t => t
  | _ => s

/-- R8: the executing request of a link that ends runs to its end in its owner block, and its reply is
discarded. Only a WRITE_IMAGE_END that goes to PROGRAMMING is still executing then (log entry 48). -/
def runOut (l : Link) (s : State) : State :=
  match s.request l with
  | some (r, _) =>
    (ownerRows.filter (·.1 == r.code.toNat)).foldl (fun s e => leftBy (e.2 l s) s)
      (s.modLink l fun ls => { ls with executing := .running r true })
  | none => s

/-- Whether an OK RESTART reply is lost when a link ends: one not yet sent, or that of the request it
executes (R17). -/
def losesRestart (l : Link) (s : State) : Bool :=
  (s.links[l]).restarts || match s.request l with
    | some (r, _) => r.code.toNat == 112 && (doRestart r.payload s).status == .ok
    | none => false

/-! ## Link end (R6, R8) -/

/-- R8: what LC does with the ended link; a request still executing goes on without it. -/
def LinkState.ended (ls : LinkState) : LinkState :=
  { ls with
    mode := .down
    keepalive := none
    holdOver := none
    fifo := []
    tx := []
    overrun := false
    executing := match ls.executing with
      | .running r _ => .running r true
      | _ => .idle }

/-- CQS's part of a link end (R120). -/
def cqsLinkEnd (l : Link) (s : State) : State := if s.owner = some l then ownerLinkEnd s else s

/-- The three owners act on "link n ended". -/
def announceEnd (l : Link) (o : LinkEndOrder) (s : State) : State :=
  match o with
  | .zmCqsAst => abortLoads l (cqsLinkEnd l (removeClaims l s))
  | .zmAstCqs => cqsLinkEnd l (abortLoads l (removeClaims l s))
  | .cqsZmAst => abortLoads l (removeClaims l (cqsLinkEnd l s))
  | .cqsAstZm => removeClaims l (abortLoads l (cqsLinkEnd l s))
  | .astZmCqs => cqsLinkEnd l (removeClaims l (abortLoads l s))
  | .astCqsZm => removeClaims l (cqsLinkEnd l (abortLoads l s))

/-- R8: a link ends. Its executing request runs to its end, LC empties the link, and the end is announced;
an OK RESTART reply lost with it begins the warm restart (R17). That the announcement comes before the warm
restart, so that its cues end with cause LINK_END, is the model's choice (log entry 64). -/
def linkEnd (l : Link) (o : LinkEndOrder) (s : State) : State :=
  let t := announceEnd l o ((runOut l s).modLink l LinkState.ended)
  if losesRestart l s then warmRestart t else t

/-- R6: an UP link lapses. -/
def lapse (l : Link) (o : LinkEndOrder) (s : State) : State :=
  let h := (s.params l).holdOver
  let s := s.modLink l fun ls => { ls with mode := .lapsed, keepalive := none, holdOver := some h }
  if h = 0 then linkEnd l o s else s

def execKeepaliveExpiry (l : Link) (o : LinkEndOrder) (s : State) : Host.Outcome State Fault Refusal :=
  if (s.links[l]).keepalive.isSome then
    match (s.links[l]).mode with
    | .helloWait => .next (s.modLink l fun ls => { ls with mode := .down, keepalive := none })
    | .up => .next (lapse l o s)
    | _ => .next s
  else .next s

def execHoldOverExpiry (l : Link) (o : LinkEndOrder) (s : State) : Host.Outcome State Fault Refusal :=
  if (s.links[l]).mode = .lapsed ∧ (s.links[l]).holdOver.isSome then .next (linkEnd l o s) else .next s

/-! ## Starting requests and sending replies (R9, R10, R12, R14) -/

/-- The checks of R12; none hands the request to its owner. -/
def startCheck (l : Link) (r : Request) (s : State) : Option Status :=
  match groupOf r.code.toNat with
  | none => some .form
  | some g =>
    if s.cfl.startup = .safe then if admittedInSafe r.code.toNat then none else some .configFault
    else if admits (s.params l) g then none else some .denied

/-- The oldest request of a link taken from its FIFO. -/
def startRequest (l : Link) (r : Request) (rest : List Request) (s : State) : State :=
  s.modLink l fun ls => match startCheck l r s with
    | none => { ls with fifo := rest, executing := .running r false }
    | some st => LinkState.answer { ls with fifo := rest } (.reply r.tag r.code st .empty)

/-- R12: a start. A WRITE_IMAGE_END whose link has ended still counts as executing on the link until programming
ends, which is the model's choice (log entry 69). -/
def execRequestStart (l : Link) (s : State) : Host.Outcome State Fault Refusal :=
  if s.serving && (s.links[l]).mode == .up && (s.links[l]).executing == .idle then
    match (s.links[l]).fifo with
    | r :: rest => .next (startRequest l r rest s)
    | [] => .next s
  else .next s

def execReplyEntersQueue (l : Link) (s : State) : Host.Outcome State Fault Refusal :=
  match (s.links[l]).executing with
  | .replyWaiting f =>
    if (s.links[l]).tx.length < 16 then
      .next (s.modLink l fun ls => { ls with tx := ls.tx ++ [f], executing := .idle })
    else .next s
  | _ => .next s

/-- R14: the oldest entry freed; an OK RESTART reply sent begins the warm restart (R17). -/
def execTransmitFrameSent (l : Link) (s : State) : Host.Outcome State Fault Refusal :=
  match (s.links[l]).mode, (s.links[l]).tx with
  | .down, _ => .next s
  | _, f :: rest =>
    let s := s.modLink l fun ls => { ls with tx := rest }
    if f.restarts then .next (warmRestart s) else .next s
  | _, [] => .next s

end Sys2Proof.Machine
end

