-- ==== Sys2Proof/Machine/Dispatch.lean ====
section
/-! DEFINITION. One arm per command: its meaning. -/

namespace Sys2Proof.Machine

def exec (i : Instr) (s : State) : Host.Outcome State Fault Refusal :=
  match i with
  | .coldStart cause => Sys2Proof.Machine.execColdStart cause s
  | .powerUpExit => Sys2Proof.Machine.execPowerUpExit s
  | .configReadComplete => Sys2Proof.Machine.execConfigReadComplete s
  | .residentLoadComplete => Sys2Proof.Machine.execResidentLoadComplete s
  | .badLengthFrame link bytes => Sys2Proof.Machine.execBadLengthFrame link bytes s
  | .frameReceive link bytes => Sys2Proof.Machine.execFrameReceive link bytes s
  | .hello link tag payload => Sys2Proof.Machine.execHello link tag payload s
  | .keepaliveExpiry link order => Sys2Proof.Machine.execKeepaliveExpiry link order s
  | .holdOverExpiry link order => Sys2Proof.Machine.execHoldOverExpiry link order s
  | .requestStart link => Sys2Proof.Machine.execRequestStart link s
  | .replyEntersQueue link => Sys2Proof.Machine.execReplyEntersQueue link s
  | .transmitFrameSent link => Sys2Proof.Machine.execTransmitFrameSent link s
  | .linkStatus link => Sys2Proof.Machine.execLinkStatus link s
  | .frameStart => Sys2Proof.Machine.execFrameStart s
  | .returnWord chain sent word => Sys2Proof.Machine.execReturnWord chain sent word s
  | .scanCompletion => Sys2Proof.Machine.execScanCompletion s
  | .chainFault chain => Sys2Proof.Machine.execChainFault chain s
  | .chainRecover chain => Sys2Proof.Machine.execChainRecover chain s
  | .setDark link => Sys2Proof.Machine.execSetDark link s
  | .setLit link => Sys2Proof.Machine.execSetLit link s
  | .testFrame link => Sys2Proof.Machine.execTestFrame link s
  | .adoptionPoint => Sys2Proof.Machine.execAdoptionPoint s
  | .gapEnd zone => Sys2Proof.Machine.execGapEnd zone s
  | .clipFrameQuery zone => Sys2Proof.Machine.execClipFrameQuery zone s
  | .freezeLimitAbort zone => Sys2Proof.Machine.execFreezeLimitAbort zone s
  | .clipTakenReport zone => Sys2Proof.Machine.execClipTakenReport zone s
  | .frameRepeatEnd zone => Sys2Proof.Machine.execFrameRepeatEnd zone s
  | .cueDone zone => Sys2Proof.Machine.execCueDone zone s
  | .planAllocation => Sys2Proof.Machine.execPlanAllocation s
  | .compositionEnd order => Sys2Proof.Machine.execCompositionEnd order s
  | .airingComplete zone order => Sys2Proof.Machine.execAiringComplete zone order s
  | .messageShowingEnd order => Sys2Proof.Machine.execMessageShowingEnd order s
  | .msTick input => Sys2Proof.Machine.execMsTick input s
  | .clockExpiry clock input => Sys2Proof.Machine.execClockExpiry clock input s
  | .hornEnd input => Sys2Proof.Machine.execHornEnd input s
  | .stopLineAccept input => Sys2Proof.Machine.execStopLineAccept input s
  | .alarmLineAccept input => Sys2Proof.Machine.execAlarmLineAccept input s
  | .messageExpiry message source input => Sys2Proof.Machine.execMessageExpiry message source input s
  | .setClock link => Sys2Proof.Machine.execSetClock link s
  | .startClock link => Sys2Proof.Machine.execStartClock link s
  | .stopClock link => Sys2Proof.Machine.execStopClock link s
  | .adjustClock link => Sys2Proof.Machine.execAdjustClock link s
  | .resetShot link => Sys2Proof.Machine.execResetShot link s
  | .applyCapture link => Sys2Proof.Machine.execApplyCapture link s
  | .horn link => Sys2Proof.Machine.execHorn link s
  | .setScore link => Sys2Proof.Machine.execSetScore link s
  | .addScore link => Sys2Proof.Machine.execAddScore link s
  | .showZone link => Sys2Proof.Machine.execShow link s
  | .hideZone link => Sys2Proof.Machine.execHide link s
  | .takeover link => Sys2Proof.Machine.execTakeover link s
  | .releaseTakeover link => Sys2Proof.Machine.execReleaseTakeover link s
  | .clockStatus link => Sys2Proof.Machine.execClockStatus link s
  | .zoneStatus link => Sys2Proof.Machine.execZoneStatus link s
  | .planStatus link => Sys2Proof.Machine.execPlanStatus link s
  | .assetBegin link => Sys2Proof.Machine.execAssetBegin link s
  | .assetData link => Sys2Proof.Machine.execAssetData link s
  | .assetEnd link => Sys2Proof.Machine.execAssetEnd link s
  | .assetAbort link => Sys2Proof.Machine.execAssetAbort link s
  | .assetDelete link => Sys2Proof.Machine.execAssetDelete link s
  | .assetStatus link => Sys2Proof.Machine.execAssetStatus link s
  | .clipFrameArrival frame => Sys2Proof.Machine.execClipFrameArrival frame s
  | .queueCue link => Sys2Proof.Machine.execQueueCue link s
  | .play link => Sys2Proof.Machine.execPlay link s
  | .stopCue link => Sys2Proof.Machine.execStopCue link s
  | .flush link => Sys2Proof.Machine.execFlush link s
  | .cueStatus link => Sys2Proof.Machine.execCueStatus link s
  | .postMessage link => Sys2Proof.Machine.execPostMessage link s
  | .postEvacuate link => Sys2Proof.Machine.execPostEvacuate link s
  | .cancelMessage link => Sys2Proof.Machine.execCancelMessage link s
  | .clearEvacuate link => Sys2Proof.Machine.execClearEvacuate link s
  | .messageStatus link => Sys2Proof.Machine.execMessageStatus link s
  | .define link => Sys2Proof.Machine.execDefine link s
  | .setTarget link => Sys2Proof.Machine.execSetTarget link s
  | .setHoldback link => Sys2Proof.Machine.execSetHoldback link s
  | .close link => Sys2Proof.Machine.execClose link s
  | .reopen link => Sys2Proof.Machine.execReopen link s
  | .readContract link => Sys2Proof.Machine.execReadContract link s
  | .addSpot link => Sys2Proof.Machine.execAddSpot link s
  | .removeSpot link => Sys2Proof.Machine.execRemoveSpot link s
  | .setTrigger link => Sys2Proof.Machine.execSetTrigger link s
  | .clearTrigger link => Sys2Proof.Machine.execClearTrigger link s
  | .rotationStatus link => Sys2Proof.Machine.execRotationStatus link s
  | .readLog link => Sys2Proof.Machine.execReadLog link s
  | .channelConversionEnd samples => Sys2Proof.Machine.execChannelConversionEnd samples s
  | .monitorScanComplete => Sys2Proof.Machine.execMonitorScanComplete s
  | .derateStep feed => Sys2Proof.Machine.execDerateStep feed s
  | .setRange link => Sys2Proof.Machine.execSetRange link s
  | .releaseFeed link => Sys2Proof.Machine.execReleaseFeed link s
  | .monitorStatus link => Sys2Proof.Machine.execMonitorStatus link s
  | .writeImageBegin link => Sys2Proof.Machine.execWriteImageBegin link s
  | .writeImageData link => Sys2Proof.Machine.execWriteImageData link s
  | .writeImageEnd link => Sys2Proof.Machine.execWriteImageEnd link s
  | .flashProgrammingComplete result => Sys2Proof.Machine.execFlashProgrammingComplete result s
  | .writeIdleTimeout input => Sys2Proof.Machine.execWriteIdleTimeout input s
  | .restart link => Sys2Proof.Machine.execRestart link s
  | .warmRestartBegin => Sys2Proof.Machine.execWarmRestartBegin s

end Sys2Proof.Machine
end

