-- ==== Sys2Proof/Safety.lean ====
section
/-! DEFINITION. What the part keeps at every step: it goes on, and the laws the manual names for its collections, its
score and its feed lines. -/

namespace Sys2Proof.Machine

/-- The part goes on: its next step answers a next state. -/
def GoesOn (s : State) : Prop := ∃ t, step s = .next t

/-- R100: every score counter lies within 0 and 999. -/
def ScoreInRange (s : State) : Prop := ∀ k : CounterId, s.csu.score[k] ≤ 999

/-- R28: the line of a feed is asserted in RUN while the feed is not TRIPPED, and deasserted otherwise. -/
def FeedLinesFollow (s : State) : Prop := ∀ i : FeedId, s.osu.feedLines[i] = (s.inRun && !(s.fmn.feeds[i]).tripped)

/-- R11, R14: a link holds at most 8 requests and 16 frames to send. A request whose link has ended since is not counted
(log entry 69). -/
def LinkQueuesBounded (s : State) : Prop := ∀ l : Link, (s.links[l]).entries ≤ 8 ∧ (s.links[l]).tx.length ≤ 16

/-- R166: the airing log holds at most 256 entries. -/
def LogBounded (s : State) : Prop := s.exu.log.length ≤ 256

/-- Numbers of a list of records strictly rise from one above `lo`. -/
def risingFrom {α : Type} : Nat → List (Nat × α) → Bool
  | _, [] => true
  | lo, (k, _) :: l => lo ≤ k && risingFrom (k + 1) l

/-- The canonical form of the asset directory: numbers strictly rising, and no record that stands for an unlisted one. -/
def directoryOk (d : List (Nat × AssetRec)) : Bool :=
  risingFrom 0 d && d.all fun e => e.2.refs != 0 || e.2.body != .empty

/-- The canonical form of the clip buffer: slot numbers strictly rising. -/
def slotsOk (l : List (Nat × Slot)) : Bool := risingFrom 0 l

/-- The canonical forms of both buffers. -/
def BuffersCanonical (s : State) : Prop := directoryOk s.ast.directory = true ∧ slotsOk s.cqs.slots = true

end Sys2Proof.Machine
end

