-- ==== Sys2Proof/Certificates/Slice0/Obligations.lean ====
section
/-! DEFINITION. The statements put to the provers. Words they share: `Answers` is that a request row, on a link that
executes a request of that code and payload, completes with the given state, status and reply; `Refuses` that it leaves
the state and replies with a status and no payload. -/

namespace Sys2Proof.Machine

/-- The command completes the link's executing request (of the given code and payload) with state `t`,
status `st` and reply payload `b`; `ReplyOfAnExecutedRequest` says what `finish` does with them. -/
def Answers (c : Instr) (l : Link) (code : Nat) (p : List Byte) (s t : State) (st : Status) (b : ReplyBody) : Prop :=
  ∀ (r : Request) (o : Bool), s.request l = some (r, o) → r.code.toNat = code → r.payload = p →
    exec c s = .next (finish l r o ⟨t, st, b⟩)

/-- The request is refused: a status other than OK, an empty payload, no effect (R13). -/
def Refuses (c : Instr) (l : Link) (code : Nat) (p : List Byte) (s : State) (st : Status) : Prop :=
  Answers c l code p s s st .empty

/-- As `Answers`, with what is said of the state left by the owner. -/
def AnswersWith (c : Instr) (l : Link) (code : Nat) (p : List Byte) (s : State) (st : Status) (b : ReplyBody)
    (post : State → Prop) : Prop :=
  ∀ (r : Request) (o : Bool), s.request l = some (r, o) → r.code.toNat = code → r.payload = p →
    ∃ t, post t ∧ exec c s = .next (finish l r o ⟨t, st, b⟩)

/-- The command completes with a next state of which something is said. -/
def Leaves (c : Instr) (s : State) (post : State → Prop) : Prop := ∃ t, exec c s = .next t ∧ post t

/-- A command of the links, zones, assets, cues, messages, rotation or contracts leaves the rest: start-up
and image, the output scan, clocks and score, feeds, the queue of commands. -/
def Elsewhere (s t : State) : Prop :=
  t.cfl = s.cfl ∧ t.osu = s.osu ∧ t.csu = s.csu ∧ t.fmn = s.fmn ∧ t.freeCount = s.freeCount ∧ t.pending = s.pending

/-- R190: bytes of a record laid out by a table of offset, size and value: each field most significant byte
first, nothing beyond the record's length. -/
def LaidOut (bytes : List Byte) (length : Nat) (table : List (Nat × Nat × Nat)) : Prop :=
  bytes.length = length ∧ ∀ e ∈ table, ∀ j, j < e.2.1 →
    bytes[e.1 + j]? = some (BitVec.ofNat 8 (e.2.2 / 256 ^ (e.2.1 - 1 - j)))

/-- Notices handed to LC one after another. -/
def notifyAll (ns : List Notice) (s : State) : State := ns.foldl (fun s n => notify n s) s

/-- R121: what a CUE_STATE notice carries of a cue with so many held slots. -/
def cueStateOf (q : Cue) (cause : Option AbortCause) (held : Nat) (n : Seq) : Notice :=
  .cueState q.id q.zone q.state cause q.position held q.attribution q.dropped n

/-- R125: the first queued message that is eligible: its condition is ANY, or GAME is not RUNNING. -/
def firstOf (s : State) : Option Message := s.mse.queue.find? fun m => !(m.whenStopped && s.gameRunning)

/-- The payload lengths of R193: least and greatest, for the rows whose owner is always free to answer.
EVACUATE is a POST_MESSAGE of the right length, and a wrong length is POST_MESSAGE's to answer;
WRITE_IMAGE_END is handled apart. -/
def payloadLengths : List ((Link → Instr) × Nat × Nat × Nat) :=
  [(.linkStatus, 2, 0, 0), (.monitorStatus, 3, 0, 0), (.zoneStatus, 4, 1, 1), (.planStatus, 5, 0, 0),
    (.clockStatus, 6, 0, 0), (.cueStatus, 7, 0, 0), (.messageStatus, 8, 0, 0), (.rotationStatus, 9, 1, 1),
    (.assetBegin, 16, 6, 6), (.assetData, 17, 7, 1024), (.assetEnd, 18, 2, 2), (.assetAbort, 19, 2, 2),
    (.assetDelete, 20, 2, 2), (.assetStatus, 21, 2, 2), (.setClock, 32, 5, 5), (.startClock, 33, 1, 1),
    (.stopClock, 34, 1, 1), (.adjustClock, 35, 5, 5), (.resetShot, 36, 0, 0), (.applyCapture, 37, 0, 0),
    (.horn, 38, 2, 2), (.setScore, 39, 3, 3), (.addScore, 40, 2, 2), (.showZone, 41, 1, 1), (.hideZone, 42, 1, 1),
    (.takeover, 43, 1, 1), (.releaseTakeover, 44, 1, 1)] ++
  [(.queueCue, 48, 12, 12), (.play, 49, 1, 1), (.stopCue, 50, 1, 1), (.flush, 51, 0, 0), (.postMessage, 64, 12, 12),
    (.cancelMessage, 65, 2, 2), (.clearEvacuate, 66, 0, 0), (.define, 80, 15, 15), (.setTarget, 81, 5, 5),
    (.setHoldback, 82, 5, 5), (.close, 83, 1, 1), (.reopen, 84, 1, 1), (.readContract, 85, 1, 1), (.addSpot, 86, 9, 9),
    (.removeSpot, 87, 1, 1), (.setTrigger, 88, 4, 4), (.clearTrigger, 89, 1, 1), (.readLog, 90, 1, 1),
    (.setDark, 96, 0, 0), (.setLit, 97, 0, 0), (.testFrame, 98, 0, 0), (.setRange, 99, 2, 2), (.releaseFeed, 100, 1, 1),
    (.restart, 112, 0, 0), (.writeImageBegin, 113, 4, 4), (.writeImageData, 114, 5, 1022)]

/-- Rows whose first byte names one of so many things: row, code, payload length, how many. -/
def numberedRows : List ((Link → Instr) × Nat × Nat × Nat) :=
  [(.zoneStatus, 4, 1, 16), (.rotationStatus, 9, 1, 128), (.setClock, 32, 5, 3), (.startClock, 33, 1, 3),
    (.stopClock, 34, 1, 3), (.adjustClock, 35, 5, 3), (.setScore, 39, 3, 16), (.addScore, 40, 2, 16),
    (.showZone, 41, 1, 16), (.hideZone, 42, 1, 16), (.takeover, 43, 1, 16), (.releaseTakeover, 44, 1, 16),
    (.play, 49, 1, 16), (.define, 80, 15, 64), (.setTarget, 81, 5, 64), (.setHoldback, 82, 5, 64), (.close, 83, 1, 64),
    (.reopen, 84, 1, 64), (.readContract, 85, 1, 64), (.setTrigger, 88, 4, 8), (.clearTrigger, 89, 1, 8),
    (.setRange, 99, 2, 4), (.releaseFeed, 100, 1, 4)]

/-- The bytes of a link frame (R190): sync, length, kind, tag, code, payload and CRC-16 over all after the
sync byte. -/
def frameBytes (kind : Nat) (r : Request) : List Byte :=
  let covered := field 2 r.payload.length ++ field 1 kind ++ [r.tag, r.code] ++ r.payload
  165 :: covered ++ field 2 (crc16 covered)

/-- R4: a link holds no claim and loads no asset. -/
def HoldsNoClaimOrLoad (s : State) (l : Link) : Prop :=
  (∀ z : ZoneId, s.isMain z = true →
    (∀ c, (s.zones[z]).stack.replay ≠ some (l, c)) ∧ ∀ c, (s.zones[z]).stack.takeover ≠ some (l, c)) ∧
  ∀ id, (s.asset id).body.loadedBy l = false

/-- A contract's laws (R140): MET exactly when defined, not closed and earned to its target; the remainder
below 255; the holdback within the target; earned saturated. -/
def ContractLawful (k : Contract) : Prop :=
  (k.state = .met ↔ k.state ≠ .unused ∧ k.state ≠ .closed ∧ k.target ≤ k.earned) ∧ k.remainder ≤ 254 ∧
    k.holdback ≤ k.target ∧ k.earned ≤ 4294967295

/-- The blocks a list of asset records holds. -/
def blocksHeld (d : List (Nat × AssetRec)) : Nat := (d.map fun e => e.2.body.blocks).sum

/-- The asset directory is canonical and every block of frame memory is free or held (R70). -/
def FrameMemoryAccounted (s : State) : Prop :=
  directoryOk s.ast.directory = true ∧ s.ast.freeBlocks + blocksHeld s.ast.directory = 4096

/-- R107: the clip slots are canonical, and while the stream is UP its credits and the FULL slots make up the 120;
while it is DOWN there are no credits. -/
def CreditsAccounted (s : State) : Prop :=
  slotsOk s.cqs.slots = true ∧ s.cqs.slots.length ≤ 120 ∧
    (s.cqs.streamUp = true → s.cqs.credits + s.cqs.slots.length = 120) ∧
    (s.cqs.streamUp = false → s.cqs.credits = 0)

/-- R85: a clock is counted at a tick: RUNNING, GAME RUNNING if it is LINKED, and not at its end. -/
def Counts (s : State) (c : ClockId) : Prop :=
  (s.csu.clocks[c]).state = .running ∧ ((s.csu.clocks[c]).linked = true → s.gameRunning = true) ∧
    (s.csu.clocks[c]).value ≠ (s.csu.clocks[c]).endValue

/-- The value of a clock one millisecond on. -/
def valueAfter (k : ClockRec) : Nat :=
  match k.dir with
  | .down => k.value - 1
  | .up => k.value + 1

/-- R93: a clock expires at a tick: it is counted and reaches its end. -/
def Expires (s : State) (c : ClockId) : Prop :=
  Counts s c ∧ valueAfter s.csu.clocks[c] = (s.csu.clocks[c]).endValue

/-- R92: the warn-armed flag a written value leaves. -/
def armedAt (k : ClockRec) (v : Nat) : Bool := k.dir == .down && 0 < k.warning && k.warning < v

/-- R88: START_CLOCK may start a clock: SET or STOPPED, and not at its end. -/
def MayStart (k : ClockRec) : Prop := (k.state = .set ∨ k.state = .stopped) ∧ k.value ≠ k.endValue

/-- R155: from `s` to `t` the airing of a rotation zone is cut: it joins the ending airings with its cause,
and the zone's fallback is written, for a SPONSOR zone as pending content, for a MAIN zone as the content of
level 0; there it is pending too where level 0 is the top without a gap, but for TOP_LOST, at which the new
top's content or a GAP is pending. -/
def CutsAiring (cause : CutCause) (s t : State) (z : ZoneId) : Prop :=
  ∀ (r : RotZone) (a : Airing), s.rot.zones[z] = some r → r.airing = some a →
    (t.rot.zones[z]).map (fun x => (x.airing, x.ending, x.fallbackShown)) =
      some (none, r.ending ++ [{ a with phase := .ending, cut := some cause }], true) ∧
    (s.isMain z = false → (t.zones[z]).pending = some (fallbackOf (s.zoneCfg z))) ∧
    (s.isMain z = true → (t.zones[z]).stack.rotation = fallbackOf (s.zoneCfg z) ∧
      (cause ≠ .topLost → (s.zones[z]).stack.top = 0 → (s.zones[z]).gapping = false →
        (t.zones[z]).pending = some (fallbackOf (s.zoneCfg z))))

/-- R150: an airing after a composition `n` in which its zone showed `shown`: counted when the content
carries the airing. -/
def countedIn (n : Seq) (shown : Content) (a : Airing) : Airing :=
  if shown.airing.map (·.id) = some a.id then
    { a with frames := a.frames + 1, last := some n, first := if a.frames = 0 then some n else a.first,
             phase := if a.phase = .pending then .onAir else a.phase }
  else a

/-- R150, R162: the closing mark of an airing of a zone, with the zone's area. -/
def airingMark (s : State) (z : ZoneId) (o : Outcome) (a : Airing) : Mark :=
  { key := .airing a.id, contract := a.contract, zone := z, area := (s.zoneCfg z).width * (s.zoneCfg z).height,
    source := match a.source with
      | .ring => .ring
      | .makegood => .makegood
      | .insert => .insert
    first := a.first.getD 0, last := a.last.getD 0, duration := a.duration, frames := a.frames, outcome := o,
    asset := a.asset, level := a.level }

/-- R116, R162: the closing mark of a cue's attribution, listed from one composition to another. -/
def cueMark (q : Cue) (c : ContractId) (first last : Seq) : Mark :=
  { key := .cue q.id c, contract := c, zone := q.zone, area := 0, source := .cue, first := first, last := last,
    duration := 0, frames := q.listed, outcome := .attribution, asset := 0, level := 0 }

end Sys2Proof.Machine

open Sys2Proof Sys2Proof.Machine

/-! ## The queue, reset and the invariants -/

/-- The step of a state with a command at the front of its queue is that command's meaning on the rest; with
nothing waiting the part idles (the model's queue: log entry 1). -/
def Obligations.StepRunsTheFrontCommand : Prop :=
  (∀ (c : Instr) (rest : List Instr) (s : State),
    step { s with pending := c :: rest } = exec c { s with pending := rest }) ∧
  ∀ s : State, s.pending = [] → step s = .next s

/-- What reset leaves: POWER_UP with every block at its cold-start values (12.4 and the restart parts of
sections 1 to 11). Where no rule gives a value it is the model's choice: no flash part answering (log entry
9), the zone records and the channels' calibrations and thresholds (41), the budgets and scales of the last
plan report (54), LVA's last result (62), the counter and the queue of commands (1). -/
def Obligations.ResetIsTheColdStart : Prop :=
  let s := State.reset
  (s.cfl.startup = .powerUp ∧ s.cfl.fault = none ∧ s.cfl.residentsLoaded = false ∧ s.cfl.staging = .idle) ∧
  (∀ l : Link, (s.links[l]).mode = .down ∧ (s.links[l]).fifo = [] ∧ (s.links[l]).tx = [] ∧
    (s.links[l]).frameErrors = 0 ∧ (s.links[l]).overrun = false ∧ (s.links[l]).keepalive = none ∧
    (s.links[l]).holdOver = none ∧ (s.links[l]).rx = [] ∧ (s.links[l]).executing = .idle) ∧
  (s.osu.seq = 0 ∧ s.osu.standing = .lit ∧ s.osu.testPending = false ∧ s.osu.scanning = none ∧ s.osu.built = none ∧
    ∀ i : FeedId, s.osu.feedLines[i] = false) ∧
  (∀ c : ChainId, s.osu.chains[c] = { state := .unused, badRun := 0, goodRun := 0 }) ∧
  (∀ z : ZoneId, s.zones[z] =
    { shown := false, recorded := false, current := .none, start := 0, pending := none, gapLeft := 0,
      stack := { rotation := .blank true, replay := none, takeover := none, alert := none } }) ∧
  (s.cmp.comp.phase = .idle ∧ s.cmp.taken = [] ∧ (∀ z : ZoneId, s.cmp.holds[z] = none) ∧
    s.cmp.lastPlan.num = 0 ∧ s.cmp.lastPlan.entries = [] ∧
    ∀ i : FeedId, s.cmp.lastPlan.budgets[i] = 0 ∧ s.cmp.lastPlan.scales[i] = 256) ∧
  (s.ast.directory = [] ∧ s.ast.freeBlocks = 4096) ∧
  (∀ c : ClockId, s.csu.clocks[c] =
    { value := 0, dir := .down, limit := 5999999, linked := false, state := .set, warning := 0, armed := false,
      horn := false, reset := 0 }) ∧
  (s.csu.period = none ∧ s.csu.stopFilter = 0 ∧ s.csu.capture = none ∧ s.csu.hornTime = 0 ∧ s.csu.hornLine = false ∧ s.csu.stopLevel = false ∧ s.csu.stopRun = 0 ∧
    ∀ k : CounterId, s.csu.score[k] = 0) ∧
  (s.cqs.slots = [] ∧ s.cqs.queue = [] ∧ s.cqs.streamUp = false ∧ s.cqs.credits = 0 ∧ s.cqs.violation = false ∧
    s.cqs.discards = 0 ∧ s.cqs.lane = [] ∧ ∀ z : ZoneId, s.cqs.lanes[z] = none) ∧
  (s.mse.queue = [] ∧ s.mse.display = none ∧ s.mse.emergency = .none ∧ s.mse.alarmLevel = false ∧ s.mse.alarmRun = 0 ∧
    s.mse.alarmFilter = 10 ∧ s.mse.markMessage = false) ∧
  (s.rot.ring = [] ∧ s.rot.makegood = [] ∧ s.rot.insert = [] ∧ s.rot.nextAiring = 0 ∧
    (∀ i : Fin 8, s.rot.triggers[i] = none) ∧ ∀ z : ZoneId, s.rot.zones[z] = none) ∧
  (s.exu.records = [] ∧ s.exu.creditedThrough = none ∧ s.exu.log = [] ∧ s.exu.logLost = 0 ∧
    ∀ c : ContractId, s.exu.contracts[c] = Contract.unused) ∧
  (∀ i : FeedId, s.fmn.channels[currentOf i] =
      { enabled := false, selected := .low, effect := .low, setting := .current ⟨0, 0, 0, 0⟩ ⟨0, 0, 0, 0⟩, last := none } ∧
    s.fmn.channels[voltageOf i] =
      { enabled := false, selected := .low, effect := .low, setting := .voltage 0 0 0 0, last := none } ∧
    s.fmn.feeds[i] =
      { budget := 0, derate := 256, dMin := 256, step := 1, nStress := 1, nRelief := 1, stressRun := 0, reliefRun := 0,
        tripRun := 0, tripped := false } ∧
    s.fmn.lva.feeds[i] = { state := .normal, budget := 0, held := 0, free := 0, scale := 256 }) ∧
  (s.fmn.settle = 0 ∧ s.fmn.sample = 0 ∧ s.fmn.average = 1 ∧ s.fmn.scan = none ∧ s.fmn.skipped = 0 ∧ s.fmn.lva.num = 0) ∧
  (s.cfl.flash = .silent ∧ s.cfl.restarting = false ∧ s.freeCount = 0 ∧ s.pending = [])

/-- Reset meets every invariant that the statements below say each step keeps. -/
def Obligations.ResetMeetsTheInvariants : Prop :=
  ScoreInRange State.reset ∧ FeedLinesFollow State.reset ∧ LinkQueuesBounded State.reset ∧ LogBounded State.reset ∧
    BuffersCanonical State.reset ∧ FrameMemoryAccounted State.reset ∧ CreditsAccounted State.reset ∧
    ∀ c : ContractId, ContractLawful State.reset.exu.contracts[c]

/-- R100: no step takes a score counter out of 0 to 999. -/
def Obligations.ScoreStaysInRange : Prop := ∀ s t : State, ScoreInRange s → step s = .next t → ScoreInRange t

/-- R28: in RUN the feed-enable line of a feed is asserted exactly while the feed is not TRIPPED; in every other
start-up state all four are deasserted. -/
def Obligations.FeedLinesFollowTheFeeds : Prop :=
  ∀ s t : State, FeedLinesFollow s → step s = .next t → FeedLinesFollow t

/-- R11, R14: no step brings a link above 8 requests or 16 frames to send. (That a WRITE_IMAGE_END still in
PROGRAMMING on a link that has ended is none of the 8 is the model's choice: log entry 69.) -/
def Obligations.LinkQueuesStayBounded : Prop :=
  ∀ s t : State, LinkQueuesBounded s → step s = .next t → LinkQueuesBounded t

/-- R166: no step brings the airing log above 256 entries. -/
def Obligations.AiringLogStaysBounded : Prop := ∀ s t : State, LogBounded s → step s = .next t → LogBounded t

/-- R70: at every step the free blocks and the blocks the asset records hold make up the 4,096 of frame memory. -/
def Obligations.FrameMemoryStaysAccounted : Prop :=
  ∀ s t : State, FrameMemoryAccounted s → step s = .next t → FrameMemoryAccounted t

/-- R107: at every step the stream's credits match the FREE clip slots. -/
def Obligations.StreamCreditsMatchFreeSlots : Prop :=
  ∀ s t : State, CreditsAccounted s → step s = .next t → CreditsAccounted t

/-- R140: every step keeps the laws of every contract record. -/
def Obligations.ContractsStayLawful : Prop :=
  ∀ s t : State, (∀ c : ContractId, ContractLawful s.exu.contracts[c]) → step s = .next t →
    ∀ c : ContractId, ContractLawful t.exu.contracts[c]

/-! ## Replies, notices and the request rows (sections 1.5 to 1.8) -/

/-- R12, R14: the reply of an executed request enters the transmit queue and frees the request's entry; with
all 16 entries occupied it waits with the entry occupied; nothing else of the state the owner left changes.
R8: the reply of a request whose link has ended is discarded, and nothing else changes. -/
def Obligations.ReplyOfAnExecutedRequest : Prop :=
  ∀ (l : Link) (r : Request) (a : Answer),
    finish l r true a = { a.state with links := upd a.state.links l fun ls => { ls with executing := .idle } } ∧
    ((a.state.links[l]).tx.length < 16 →
      finish l r false a = { a.state with links := upd a.state.links l fun ls =>
        { ls with tx := ls.tx ++ [.reply r.tag r.code a.status a.body], executing := .idle } }) ∧
    (16 ≤ (a.state.links[l]).tx.length →
      finish l r false a = { a.state with links := upd a.state.links l fun ls =>
        { ls with executing := .replyWaiting (.reply r.tag r.code a.status a.body) } })

/-- R15: a notice enters the transmit queue of every UP link subscribed to its kind; one that finds 12
notices queued is dropped there and sets the overrun flag (so does one that finds no free entry: log entry
24); no other link and no other state changes. -/
def Sys2Proof.Machine.NoticeQueuesItsCopies : Prop :=
  ∀ (n : Notice) (s : State) (l : Link),
    notify n s = { s with links := (notify n s).links } ∧
    ((s.links[l]).mode ≠ .up ∨ n.kind ∉ (s.params l).subs → (notify n s).links[l] = s.links[l]) ∧
    ((s.links[l]).mode = .up → n.kind ∈ (s.params l).subs →
      (12 ≤ (s.links[l]).noticeCount ∨ 16 ≤ (s.links[l]).tx.length →
        (notify n s).links[l] = { s.links[l] with overrun := true }) ∧
      ((s.links[l]).noticeCount < 12 → (s.links[l]).tx.length < 16 →
        (notify n s).links[l] = { s.links[l] with tx := (s.links[l]).tx ++ [.notice n] }))

/-- R44, R48: a claim above the top, and the release of the top, hand LC one CLAIM_CHANGE with the zone, the
cause, the old and the new top level and holder, and the frame sequence counter; a release at link end below
the top hands one with the top as it is. Any other claim or release hands none. The suspension of a cue that
loses the top gives its notice after (the model's choice: log entry 39). -/
def Sys2Proof.Machine.ClaimChangesAreTold : Prop :=
  ∀ (s : State) (z : ZoneId) (level : Nat) (h : Holder), s.isMain z = true → 1 ≤ level → level ≤ 3 →
    let old := (s.zones[z]).stack
    (∀ c, old.holder level = none →
      let t := (claim z level h c s).1
      let told := notify (.claimChange z .claim old.top old.topHolder level h s.osu.seq) s
      (level = 3 → h = .messageEngine) → (level ≠ 3 → h ≠ .messageEngine ∧ h ≠ .rotation) →
      (level < old.top → t.links = s.links) ∧
      (old.top < level → (old.top = 1 → s.cqs.lanes[z] = none) → t.links = told.links) ∧
      ∀ q, old.top < level → old.top = 1 → s.cqs.lanes[z] = some q.id → s.cue q.id = some q →
        (q.state = .playing ∨ q.state = .frozen → t.links =
          (notify (cueStateOf { q with state := .suspended } none (s.heldCount q.id) s.osu.seq) told).links) ∧
        (q.state ≠ .playing → q.state ≠ .frozen → t.links = told.links)) ∧
    (∀ c, old.holder level = some h → (claim z level h c s).1.links = s.links) ∧
    ∀ atEnd : Bool, old.holder level = some h →
      let t := (release z level h atEnd s).1
      let cause := if atEnd then ClaimCause.linkEnd else .release
      (old.top ≠ level → atEnd = false → t.links = s.links) ∧
      (old.top ≠ level → atEnd = true →
        t.links = (notify (.claimChange z cause old.top old.topHolder old.top old.topHolder s.osu.seq) s).links) ∧
      (old.top = level → t.links = (notify (.claimChange z cause old.top old.topHolder
        (old.remove level).top (old.remove level).topHolder s.osu.seq) s).links)

/-- R42, R43: a claim or release that names no MAIN zone or a level outside 1 to 3 is answered RANGE, a claim of
a level that another holds HELD, a release by one who does not hold the level STATE; each leaves everything
as it was. A release by the holder takes its entry from the stack and leaves the others. Below the top it
changes nothing else of the zone; at the top the pending content is GAP, or without a change gap the content
of the new top (R44). No other zone changes. -/
def Sys2Proof.Machine.ReleasesChangeTheirEntryAlone : Prop :=
  ∀ (s : State) (z : ZoneId) (level : Nat) (h : Holder) (atEnd : Bool),
    let old := (s.zones[z]).stack
    let left := { old with
      replay := if level = 1 then none else old.replay
      takeover := if level = 2 then none else old.takeover
      alert := if level = 3 then none else old.alert }
    (s.isMain z = false ∨ level < 1 ∨ 3 < level →
      release z level h atEnd s = (s, .range) ∧ ∀ c, claim z level h c s = (s, .range, false)) ∧
    (s.isMain z = true → 1 ≤ level → level ≤ 3 →
      (old.holder level ≠ some h → release z level h atEnd s = (s, .state)) ∧
      (∀ g c, old.holder level = some g → g ≠ h → claim z level h c s = (s, .held, false)) ∧
      (old.holder level = some h →
        let t := (release z level h atEnd s).1
        (release z level h atEnd s).2 = .ok ∧ (t.zones[z]).stack = left ∧
        (t.zones[z]).current = (s.zones[z]).current ∧
        (old.top ≠ level → t.zones[z] = { s.zones[z] with stack := left }) ∧
        (old.top = level →
          (t.zones[z]).pending = some (if 0 < (s.zoneCfg z).gap then .gap else left.topContent)) ∧
        ∀ y : ZoneId, y ≠ z → t.zones[y] = s.zones[y]))

/-- R121: PLAY's entry to PREROLL and the return of a FROZEN cue to PLAYING at an arrival hand LC a
CUE_STATE with the cue id and zone, the new state, the position, the held count, the attribution, the
dropped flag and the frame sequence counter; so does every change of a cue's record that O28 and O47 state. -/
def Sys2Proof.Machine.CueChangesAreTold : Prop :=
  (∀ (s : State) (q : Cue) (f : Cue → Cue), s.cue q.id = some q → (∀ x, (f x).id = x.id) →
    (changeCue q.id f s).cue q.id = some (f q) ∧
    (changeCue q.id f s).links = (notify (cueStateOf (f q) none (s.heldCount q.id) s.osu.seq) s).links) ∧
  (∀ (s : State) (q : Cue) (f : ClipFrame) (i : Nat), s.cue q.id = some q → lowestFree 120 0 s.cqs.slots = some i →
    let t := storeFrame f q s
    let returns := q.state = .frozen ∧ f.frame = q.first + q.position
    (returns → t.links =
      (notify (cueStateOf { q with state := .playing } none (t.heldCount q.id) s.osu.seq) s).links) ∧
    (¬returns → t.links = s.links)) ∧
  ∀ (s : State) (l : Link) (p : List Byte) (z : ZoneId) (q : Cue) (k : Link), p.length = 1 → byteAt p 0 = z.val →
    s.isMain z = true → s.cqs.streamUp = true → s.cqs.lanes[z] = none → s.nextCue z = some q → s.owner = some k →
    s.cue q.id = some q → (s.zones[z]).stack.replay = none →
    let claimed := (claim z 1 (.link k) (.clip q.id q.level) s).1
    AnswersWith (.play l) l 49 p s .ok (.played q.id ((claimed.zones[z]).stack.top == 1)) fun t =>
      t.links = (notify (cueStateOf { q with state := .preroll } none (s.heldCount q.id) s.osu.seq) claimed).links

/-- R137: each change of the emergency state hands LC a MSG_STATE with the new state, its evacuation asset
or none, the cause and the frame sequence counter, before the effects of R136 where the state leaves NONE
(the model's choice: log entry 38); a cancelled message hands one with its id, source link, class, repeats
remaining and DONE, CANCELLED, before the CLAIM_CHANGE of an ALERT's level 3 (the model's choice: log entry
59). (O36 states those of the display and of expiry.) -/
def Sys2Proof.Machine.MessageChangesAreTold : Prop :=
  (∀ (s : State) (e : Emergency) (c : EmergencyCause), setEmergency e c s =
    notify (.emergency e (match e with
      | .none => none
      | .linkEvac a => some a
      | _ => if s.inRun then some s.cfl.image.alarm.asset else none) c s.osu.seq)
      { s with mse := { s.mse with emergency := e } }) ∧
  (∀ s : State,
    (s.mse.emergency = .none →
      alarmAccepted true s = leaveNone (setEmergency .alarmEvac .alarmAsserted s) ∧ alarmAccepted false s = s) ∧
    (∀ a, s.mse.emergency = .linkEvac a →
      alarmAccepted true s = giveAsset a (setEmergency .alarmEvac .alarmAsserted s) ∧ alarmAccepted false s = s) ∧
    (s.mse.emergency = .alarmEvac → alarmAccepted false s = setEmergency .alarmHeld .alarmNegated s) ∧
    (s.mse.emergency = .alarmHeld → alarmAccepted true s = setEmergency .alarmEvac .alarmAsserted s)) ∧
  (∀ (s : State) (l : Link),
    (∀ a, s.mse.emergency = .linkEvac a → AnswersWith (.clearEvacuate l) l 66 [] s .ok .empty fun t =>
      t.links = (setEmergency .none .clear s).links) ∧
    (s.mse.emergency = .alarmHeld → AnswersWith (.clearEvacuate l) l 66 [] s .ok .empty fun t =>
      t.links = (setEmergency .none .clear s).links)) ∧
  (∀ (s : State) (l : Link) (p : List Byte) (m : Message), p.length = 2 →
    s.mse.queue.find? (fun m => m.id == half p 0 && m.source == l) = some m →
    AnswersWith (.cancelMessage l) l 65 p s .ok .empty fun t =>
      t.links = (notify (.message m.id m.source m.cls .doneCancelled m.repeats s.osu.seq) s).links) ∧
  ∀ (s : State) (l : Link) (p : List Byte) (d : Display), p.length = 2 →
    s.mse.queue.find? (fun m => m.id == half p 0 && m.source == l) = none → s.mse.display = some d →
    d.message.id = half p 0 → d.message.source = l →
    let m := d.message
    let told := notify (.message m.id m.source m.cls .doneCancelled m.repeats s.osu.seq) s
    AnswersWith (.cancelMessage l) l 65 p s .ok .empty fun t =>
      (m.cls ≠ .alert ∨ s.alertZone = none → t.links = told.links) ∧
      ∀ z, m.cls = .alert → s.alertZone = some z → t.links = (release z 3 .messageEngine false told).1.links

/-- R80: an asset record that becomes READY or EMPTY by ASSET_END, ASSET_ABORT, ASSET_DELETE or its link's
end hands LC an ASSET_STATE with the id, the new state, the cause, the load figure when READY, and the free
block count after the change. The loads of one link's end go by rising id (the model's choice: log entry
20). -/
def Sys2Proof.Machine.AssetChangesAreTold : Prop :=
  (∀ (s : State) (l : Link) (p : List Byte), p.length = 2 → half p 0 ≤ 511 →
    let id := half p 0
    let freed := s.ast.freeBlocks + (s.asset id).body.blocks
    let told := fun (cause : AssetCause) (t : State) =>
      t.links = (notify (.assetState id false cause none freed) s).links
    (∀ h got sum, (s.asset id).body = .loading h l got sum →
      (got.length = shapeTotal h → AnswersWith (.assetEnd l) l 18 p s .ok (.loadFigure (sum / shapeTotal h)) fun t =>
        t.links = (notify (.assetState id true .loaded (some (sum / shapeTotal h)) s.ast.freeBlocks) s).links) ∧
      (directoryOk s.ast.directory = true → got.length ≠ shapeTotal h →
        AnswersWith (.assetEnd l) l 18 p s .form .empty (told .failed)) ∧
      (directoryOk s.ast.directory = true → AnswersWith (.assetAbort l) l 19 p s .ok .empty (told .aborted))) ∧
    (8 ≤ id → (s.params l).protBase ≤ id → id ≤ (s.params l).protLimit → (s.asset id).body.isReady = true →
      (s.asset id).refs = 0 → directoryOk s.ast.directory = true →
      AnswersWith (.assetDelete l) l 20 p s .ok .empty (told .deleted))) ∧
  ∀ (s : State) (l : Link), directoryOk s.ast.directory = true →
    let ids := (s.ast.directory.filter fun e => e.2.body.loadedBy l).map (·.1)
    (abortLoads l s).links = (notifyAll (ids.map fun id => .assetState id false .linkEnd none
      (s.ast.freeBlocks + ((ids.filter (· ≤ id)).map fun j => (s.asset j).body.blocks).sum)) s).links

/-- R166: each closure hands LC one AIRING_CLOSED with the log entry's id, contract, zone, source, outcome,
delivered, nominal and make-good value and the frame sequence counter, after what the arrival of its
make-good gives. -/
def Sys2Proof.Machine.ClosuresAreTold : Prop :=
  ∀ (restart : Bool) (r : OpenRecord) (m : Mark) (s : State),
    let arrival := if restart then none else makegoodOf s r m
    let told := fun (number : Nat) (queued : Bool) (u : State) =>
      (notify (.airingClosed number m.contract m.zone m.source m.outcome r.delivered (m.area * m.duration) queued
        s.osu.seq) u).links
    let t := closeRecord restart r m s
    (∀ id, m.key = .airing id →
      (arrival = none → t.links = told id.toNat false s) ∧
      ∀ e, arrival = some e → t.links = told id.toNat true (makegoodArrival e id s)) ∧
    ∀ cue c, m.key = .cue cue c → t.links = told cue false s

/-- Where a notice goes (R15; log entry 24), and when CLAIM_CHANGE (R44, R48), CUE_STATE (R121), MSG_STATE
(R137), ASSET_STATE (R80) and AIRING_CLOSED (R166) are handed to LC. The notices of a request precede its
reply, which R15 leaves open: the model's choice (log entry 55); their orders among themselves: log entries
20, 38, 39 and 59. -/
def Obligations.NoticeReachesSubscribedUpLinks : Prop :=
  NoticeQueuesItsCopies ∧ ClaimChangesAreTold ∧ ReleasesChangeTheirEntryAlone ∧ CueChangesAreTold ∧ MessageChangesAreTold ∧ AssetChangesAreTold ∧
    ClosuresAreTold

/-- R193: a request whose payload length is not the one given, or lies outside the range given, is answered
FORM and has no effect. WRITE_IMAGE_END likewise, unless it is the request whose image is being programmed.
(That a WRITE_IMAGE_DATA or WRITE_IMAGE_END of wrong length is FORM also where R188 would answer it STATE is
the model's choice: log entry 73.) -/
def Sys2Proof.Machine.WrongLengthIsForm : Prop :=
  (∀ e ∈ payloadLengths, ∀ (l : Link) (p : List Byte) (s : State),
    (p.length < e.2.2.1 ∨ e.2.2.2 < p.length) → Refuses (e.1 l) l e.2.1 p s .form) ∧
  ∀ (l : Link) (p : List Byte) (s : State), s.programming l = false → p.length ≠ 0 →
    Refuses (.writeImageEnd l) l 115 p s .form

/-- A request of the right length that names something above the last one is answered RANGE and has no
effect: a zone above 15 (R51 for ZONE_STATUS, R40 for SHOW and HIDE, R42 and R43 for the takeover of R99,
R112 for PLAY), a clock above 2 (section 6.3), a counter above 15 (R100), a contract above 63 (R141 to R143),
a trigger entry above 7 (R147), a current channel above 3 (R171), a feed above 3 (R177), a ROTATION_STATUS
start index above 127 (R157), an asset id above 511 (R71 to R75, R80). -/
def Sys2Proof.Machine.NumberAboveTheLastIsRange : Prop :=
  (∀ e ∈ numberedRows, ∀ (l : Link) (p : List Byte) (s : State),
    p.length = e.2.2.1 → e.2.2.2 ≤ byteAt p 0 → Refuses (e.1 l) l e.2.1 p s .range) ∧
  ∀ (l : Link) (p : List Byte) (s : State), 512 ≤ half p 0 →
    (p.length = 6 → Refuses (.assetBegin l) l 16 p s .range) ∧
    (7 ≤ p.length → p.length ≤ 1024 → Refuses (.assetData l) l 17 p s .range) ∧
    (p.length = 2 → Refuses (.assetEnd l) l 18 p s .range ∧ Refuses (.assetAbort l) l 19 p s .range ∧
      Refuses (.assetDelete l) l 20 p s .range ∧ Refuses (.assetStatus l) l 21 p s .range)

/-- The requests whose payload has a wrong length (R193; log entry 73) or names what is not there (by the rule
of each): FORM and RANGE. -/
def Obligations.WrongPayloadsAreRefused : Prop :=
  WrongLengthIsForm ∧ NumberAboveTheLastIsRange

/-! ## Start-up (section 12) -/

/-- R186: the supply coming up, or a reset line held low for 10 microseconds or more, puts every block at
its cold-start values in POWER_UP; a shorter pulse does nothing. Either cold start that interrupts
programming leaves the image region incomplete, and a region incomplete before stays so (R188). The flash
part found (log entry 9), the known part of the free section layout (log entry 8), the queue and the model's
counter, which a cold start keeps (log entry 13), stand beside the reset values. -/
def Sys2Proof.Machine.ColdStartResetsThePart : Prop :=
  ∀ s : State,
    let cold := fun (f : Flash) (lay : SectionLayout) => Host.Outcome.next (φ := Fault) (ρ := Refusal) { State.reset with
      cfl := { State.reset.cfl with flash := f, layout := lay }, freeCount := s.freeCount, pending := s.pending }
    let halfDone := (∃ w d, s.cfl.staging = .programming w d) ∨ s.cfl.flash = .incomplete
    (∀ f lay,
      (¬halfDone → exec (.coldStart (.powerOn f lay)) s = cold f lay) ∧
      (halfDone → exec (.coldStart (.powerOn f lay)) s = cold .incomplete lay)) ∧
    ∀ us, (us < 10 → exec (.coldStart (.resetLine us)) s = .next s) ∧
      (10 ≤ us →
        (¬halfDone → exec (.coldStart (.resetLine us)) s = cold s.cfl.flash s.cfl.layout) ∧
        (halfDone → exec (.coldStart (.resetLine us)) s = cold .incomplete s.cfl.layout))

/-- R186: POWER_UP ends in CONFIG_READ; in any other start-up state its end is no event (the model's choice:
log entry 3). -/
def Sys2Proof.Machine.PowerUpEndsInConfigRead : Prop :=
  ∀ s : State,
    (s.cfl.startup = .powerUp →
      exec .powerUpExit s = .next { s with cfl := { s.cfl with startup := .configRead } }) ∧
    (s.cfl.startup ≠ .powerUp → exec .powerUpExit s = .next s)

/-- A cold start and the end of POWER_UP (R186; log entries 3, 8, 9 and 13). -/
def Obligations.ColdStartAndPowerUp : Prop :=
  ColdStartResetsThePart ∧ PowerUpEndsInConfigRead

/-- R18: a valid geometry section: W 1 to 64, H 1 to 32, frame rate 50 or 60, every tile of the grid with one
record, on a chain of 0 to 47 at a position of 0 to 63 with a feed of 0 to 3, no two tiles at one chain and
position. -/
def Sys2Proof.Machine.GeometryInRange (g : Geometry) : Prop :=
  1 ≤ g.width ∧ g.width ≤ 64 ∧ 1 ≤ g.height ∧ g.height ≤ 32 ∧ (g.frameRate = 50 ∨ g.frameRate = 60) ∧
  (∀ t ∈ g.tiles, t.col < g.width ∧ t.row < g.height ∧ t.chain ≤ 47 ∧ t.position ≤ 63 ∧ t.feed ≤ 3) ∧
  (∀ c r, c < g.width → r < g.height → ∃ t ∈ g.tiles, t.col = c ∧ t.row = r) ∧
  g.tiles.Pairwise (fun t u => t.col ≠ u.col ∨ t.row ≠ u.row) ∧
  g.tiles.Pairwise fun t u => t.chain ≠ u.chain ∨ t.position ≠ u.position

/-- R170: a valid feed and channel table: calibrations of 512 to 1,536, thresholds to 6,142, in either range of
a current channel low below high below trip, of a voltage channel trip-under below sag below recover. (A
budget has no range: R172 takes one above 2,048 as 2,048.) -/
def Sys2Proof.Machine.FeedTableInRange (t : FeedTable) : Prop :=
  let calibrated := fun c : Nat => 512 ≤ c ∧ c ≤ 1536
  let ordered := fun r : RangeSet => calibrated r.cal ∧ r.low < r.high ∧ r.high < r.trip ∧ r.trip ≤ 6142
  ∀ i : FeedId, ordered (t.currents[i]).lowSet ∧ ordered (t.currents[i]).highSet ∧ calibrated (t.voltages[i]).cal ∧
    (t.voltages[i]).tripUnder < (t.voltages[i]).sag ∧ (t.voltages[i]).sag < (t.voltages[i]).recover ∧
    (t.voltages[i]).recover ≤ 6142

/-- R172, R174: valid governor settings: d_min 32 to 256, step 1 to 64, n_stress and n_relief 1 to 15; settle 0
to 63, sample 0 to 255, the averaging count a power of two from 1 to 64. -/
def Sys2Proof.Machine.GovernorInRange (t : GovernorTable) : Prop :=
  (∀ i : FeedId, 32 ≤ (t.feeds[i]).dMin ∧ (t.feeds[i]).dMin ≤ 256 ∧ 1 ≤ (t.feeds[i]).step ∧ (t.feeds[i]).step ≤ 64 ∧
    1 ≤ (t.feeds[i]).nStress ∧ (t.feeds[i]).nStress ≤ 15 ∧ 1 ≤ (t.feeds[i]).nRelief ∧ (t.feeds[i]).nRelief ≤ 15) ∧
  t.settle ≤ 63 ∧ t.sample ≤ 255 ∧ t.average ∈ [1, 2, 4, 8, 16, 32, 64]

/-- R1, R105: a valid link table: the four baud rates, keepalive 100 to 10,000 ms, hold-over 0 to 60 s, protection
ids to 511; a stream-owner link, if any, is one of the four and of role REPLAY; preroll 1 to 60, freeze limit
1 to 250. -/
def Sys2Proof.Machine.LinksInRange (t : LinkTable) : Prop :=
  (∀ l : Link, (t.links[l]).baud ∈ [115200, 460800, 1000000, 3000000] ∧ 100 ≤ (t.links[l]).keepalive ∧
    (t.links[l]).keepalive ≤ 10000 ∧ (t.links[l]).holdOver ≤ 60 ∧ (t.links[l]).protBase ≤ 511 ∧
    (t.links[l]).protLimit ≤ 511) ∧
  (∀ n, t.streamOwner = some n → ∃ l : Link, l.val = n ∧ (t.links[l]).role = .replay) ∧
  1 ≤ t.preroll ∧ t.preroll ≤ 60 ∧ 1 ≤ t.freezeLimit ∧ t.freezeLimit ≤ 250

/-- R35: a valid class map: layers 0 to 6. -/
def Sys2Proof.Machine.ClassMapInRange (m : ClassMap) : Prop :=
  m.main ≤ 6 ∧ m.sponsor ≤ 6 ∧ m.message ≤ 6 ∧ m.clock ≤ 6 ∧ m.score ≤ 6

/-- R32, R33: a valid zone record: a rectangle of at least one tile within the grid; class EMERGENCY for Z15, with
the whole grid, and for no other zone; a gap to 7 frames for a MAIN zone and 0 for any other; a fallback, if
any, of a resident id, and none in a CLOCK or SCORE zone or Z15; level and load figure to 255 where held; a
clock source of the three; a list of 1 to 8 counters, in which one may stand twice (the model's choice: log
entry 53). -/
def Sys2Proof.Machine.ZoneInRange (g : Geometry) (z : ZoneId) (c : ZoneCfg) : Prop :=
  1 ≤ c.width ∧ 1 ≤ c.height ∧ c.col + c.width ≤ g.width ∧ c.row + c.height ≤ g.height ∧
  (c.cls = .emergency ↔ z = 15) ∧ (z = 15 → c.col = 0 ∧ c.row = 0 ∧ c.width = g.width ∧ c.height = g.height) ∧
  (c.cls = .main → c.gap ≤ 7) ∧ (c.cls ≠ .main → c.gap = 0) ∧
  (∀ a, c.fallback = some a → a ≤ 7 ∧ c.cls ≠ .clock ∧ c.cls ≠ .score ∧ z ≠ 15) ∧
  (c.cls = .clock ∨ c.cls = .score ∨ c.cls = .main → c.level ≤ 255 ∧ c.load ≤ 255) ∧
  (c.cls = .clock → c.clockSource ≤ 2) ∧
  (c.cls = .score → 1 ≤ c.counters.length ∧ c.counters.length ≤ 8 ∧ ∀ n ∈ c.counters, n ≤ 15)

/-- R33: a valid zone table: valid records, at most two MAIN zones, and the alert flag on exactly one MAIN zone,
on none where there is no MAIN zone. -/
def Sys2Proof.Machine.ZonesInRange (im : Image) : Prop :=
  (∀ z : ZoneId, ZoneInRange im.geometry z im.zones[z]) ∧
  (∀ x y z : ZoneId, x < y → y < z → ¬((im.zones[x]).cls = .main ∧ (im.zones[y]).cls = .main ∧
    (im.zones[z]).cls = .main)) ∧
  (∀ z : ZoneId, (im.zones[z]).alert = true → (im.zones[z]).cls = .main) ∧
  (∀ y z : ZoneId, (im.zones[y]).alert = true → (im.zones[z]).alert = true → y = z) ∧
  ∀ z : ZoneId, (im.zones[z]).cls = .main → ∃ y : ZoneId, (im.zones[y]).alert = true

/-- R33: valid mirror groups: a leader and 1 to 4 followers, SPONSOR zones all, and no zone named twice. -/
def Sys2Proof.Machine.GroupsInRange (im : Image) : Prop :=
  (∀ (g : Fin 4) (m : MirrorGroup), im.groups[g] = some m → 1 ≤ m.followers.length ∧ m.followers.length ≤ 4 ∧
    (m.leader :: m.followers).Nodup ∧
    ∀ n ∈ m.leader :: m.followers, ∃ z : ZoneId, z.val = n ∧ (im.zones[z]).cls = .sponsor) ∧
  ∀ (g h : Fin 4) (m k : MirrorGroup), g ≠ h → im.groups[g] = some m → im.groups[h] = some k →
    ∀ n ∈ m.leader :: m.followers, n ∉ k.leader :: k.followers

/-- R84: valid clock settings: limits 1 to 5,999,999 ms, warning and reset value to the limit, GAME not LINKED; the
filter time to 15 ms and a period counter, if any, of S0 to S15. -/
def Sys2Proof.Machine.ClocksInRange (t : ClockTable) : Prop :=
  (∀ c : ClockId, 1 ≤ (t.clocks[c]).limit ∧ (t.clocks[c]).limit ≤ 5999999 ∧
    (t.clocks[c]).warning ≤ (t.clocks[c]).limit ∧ (t.clocks[c]).reset ≤ (t.clocks[c]).limit) ∧
  (t.clocks[(0 : Fin 3)]).linked = false ∧ t.stopFilter ≤ 15 ∧ ∀ k, t.period = some k → k ≤ 15

/-- R69, R81: valid resident assets: ids 0 to 7, each once, width 1 to 64, height 1 to 32, 1 to 64 frames, interval
1 to 255, and data of the byte total. -/
def Sys2Proof.Machine.ResidentsInRange (l : List ResidentCfg) : Prop :=
  (∀ r ∈ l, r.id ≤ 7 ∧ 1 ≤ r.shape.width ∧ r.shape.width ≤ 64 ∧ 1 ≤ r.shape.height ∧ r.shape.height ≤ 32 ∧
    1 ≤ r.shape.frames ∧ r.shape.frames ≤ 64 ∧ 1 ≤ r.shape.interval ∧ r.shape.interval ≤ 255 ∧
    r.data.length = r.shape.width * r.shape.height * r.shape.frames * 3072) ∧
  (l.map (·.id)).Nodup

/-- R185, check 6: a section passes when every enumerated value of it is one of its choices and its values meet
the rules of its kind: geometry (R18), feed and channel table (R170), governor settings (R172, R174), link
table (R1, R105), class map (R35), zone table (R32, R33), mirror groups (R33), clock settings (R84), alarm
asset 0 to 7 with a filter time of 10 to 250 ms (R134), resident assets (R69, R81). -/
def Sys2Proof.Machine.SectionsAreCheckedByTheirRules : Prop :=
  ∀ im : Image,
    let passes := fun (kind : Nat) (rules : Prop) => sectionOk im kind = true ↔ kind ∉ im.undecodable ∧ rules
    passes 1 (GeometryInRange im.geometry) ∧ passes 2 (FeedTableInRange im.feedTable) ∧
    passes 3 (GovernorInRange im.governor) ∧ passes 4 (LinksInRange im.linkTable) ∧
    passes 5 (ClassMapInRange im.classMap) ∧ passes 6 (ZonesInRange im) ∧ passes 7 (GroupsInRange im) ∧
    passes 8 (ClocksInRange im.clocks) ∧
    passes 9 (im.alarm.asset ≤ 7 ∧ 10 ≤ im.alarm.filter ∧ im.alarm.filter ≤ 250) ∧
    passes 10 (ResidentsInRange im.residents)

/-- R185, R191: the first check that fails gives the cause: magic NO_IMAGE, version VERSION, image length
LENGTH, CRC-32 CRC (a region that ends before the image length fails it: log entry 37), directory SECTION
without a section for the count or the directory's extent and otherwise with the kind of the first failing
entry: a kind outside 1 to 10, a kind named before, a section past the image length, or one that overlaps
the header or the directory. (That the later of two entries of one kind fails, and that a section of length
0 overlaps nothing, is the model's choice: log entry 63.) An image that passes them fails with cause CHECK
on the first section outside its ranges (by rising kind: log entry 28), then on a fallback that the resident
section does not hold (section 6) or an alarm asset it does not hold (section 9: log entry 44); otherwise it
passes. -/
def Sys2Proof.Machine.FirstFailingCheckDecides : Prop :=
  ∀ (b : List Byte) (im : Image),
    let magic := byteAt b 0 = 75 ∧ byteAt b 1 = 66 ∧ byteAt b 2 = 50 ∧ byteAt b 3 = 52
    let length := 64 ≤ word b 8 ∧ word b 8 ≤ 8388608
    let crc := word b 8 ≤ b.length ∧ crc32 ((b.drop 16).take (word b 8 - 16)) = word b 12
    let kind := fun i : Nat => word b (16 + 12 * i)
    let offset := fun i : Nat => word b (20 + 12 * i)
    let size := fun i : Nat => word b (24 + 12 * i)
    let fails := fun i : Nat => kind i < 1 ∨ 10 < kind i ∨ (∃ j, j < i ∧ kind j = kind i) ∨
      word b 8 < offset i + size i ∨ (offset i < 136 ∧ 0 < size i)
    (¬magic → imageFault b im = some ⟨.noImage, none⟩) ∧
    (magic → half b 4 ≠ 1 → imageFault b im = some ⟨.version, none⟩) ∧
    (magic → half b 4 = 1 → ¬length → imageFault b im = some ⟨.length, none⟩) ∧
    (magic → half b 4 = 1 → length → ¬crc → imageFault b im = some ⟨.crc, none⟩) ∧
    (magic → half b 4 = 1 → length → crc →
      (half b 6 ≠ 10 ∨ word b 8 < 136 → imageFault b im = some ⟨.sectionTable, none⟩) ∧
      (half b 6 = 10 → 136 ≤ word b 8 →
        (∀ i, i < 10 → (∀ j, j < i → ¬fails j) → fails i →
          imageFault b im = some ⟨.sectionTable, some (kind i)⟩) ∧
        ((∀ i, i < 10 → ¬fails i) →
          (∀ k, 1 ≤ k → k ≤ 10 → (∀ j, 1 ≤ j → j < k → sectionOk im j = true) → sectionOk im k = false →
            imageFault b im = some ⟨.check, some k⟩) ∧
          ((∀ k, 1 ≤ k → k ≤ 10 → sectionOk im k = true) →
            (∀ a ∈ fallbackIds im, a ∉ im.residents.map (·.id) → imageFault b im = some ⟨.check, some 6⟩) ∧
            ((∀ a ∈ fallbackIds im, a ∈ im.residents.map (·.id)) →
              (im.alarm.asset ∉ im.residents.map (·.id) → imageFault b im = some ⟨.check, some 9⟩) ∧
              (im.alarm.asset ∈ im.residents.map (·.id) → imageFault b im = none))))))

/-- The checks of an image in their order (R185, R191; log entries 28, 37, 44 and 63), and what check 6 asks of
each section (log entry 53). -/
def Obligations.ImageChecksRunInOrder : Prop :=
  FirstFailingCheckDecides ∧ SectionsAreCheckedByTheirRules

/-- R183: a sense channel as a cold start leaves it with an image: enabled flag, calibrations, thresholds
and initial range from the image, both ranges the initial one, no last value. -/
def Sys2Proof.Machine.ChannelsFromImage (im : Image) (t : State) : Prop :=
  (∀ i : FeedId, t.fmn.channels[currentOf i] =
    { enabled := (im.feedTable.currents[i]).enabled, selected := (im.feedTable.currents[i]).initial,
      effect := (im.feedTable.currents[i]).initial,
      setting := .current (im.feedTable.currents[i]).lowSet (im.feedTable.currents[i]).highSet, last := none }) ∧
  ∀ i : FeedId, (t.fmn.channels[voltageOf i]).enabled = (im.feedTable.voltages[i]).enabled ∧
    (t.fmn.channels[voltageOf i]).setting = .voltage (im.feedTable.voltages[i]).cal (im.feedTable.voltages[i]).tripUnder
      (im.feedTable.voltages[i]).sag (im.feedTable.voltages[i]).recover ∧
    (t.fmn.channels[voltageOf i]).last = none

/-- R183: the feeds and monitor settings as a cold start leaves them with an image: budget (limited to
2,048), d_min, step, n_stress and n_relief, derate 256, the runs 0; no scan in flight, nothing skipped;
LVA's last result of composition 0 with every feed NORMAL at its full budget and scale 256 (its sums of 0
are the model's choice: log entry 62). -/
def Sys2Proof.Machine.FeedsFromImage (im : Image) (t : State) : Prop :=
  (∀ i : FeedId, t.fmn.feeds[i] =
    { budget := min im.feedTable.budgets[i] 2048, derate := 256, dMin := (im.governor.feeds[i]).dMin,
      step := (im.governor.feeds[i]).step, nStress := (im.governor.feeds[i]).nStress,
      nRelief := (im.governor.feeds[i]).nRelief, stressRun := 0, reliefRun := 0, tripRun := 0, tripped := false }) ∧
  t.fmn.settle = im.governor.settle ∧ t.fmn.sample = im.governor.sample ∧ t.fmn.average = im.governor.average ∧
  t.fmn.scan = none ∧ t.fmn.skipped = 0 ∧ t.fmn.lva.num = 0 ∧
  ∀ i : FeedId, t.fmn.lva.feeds[i] =
    { state := .normal, budget := min im.feedTable.budgets[i] 2048, held := 0, free := 0, scale := 256 }

/-- R103: CSU as a cold start leaves it with an image: each clock's direction, limit, source, warning value,
horn enable and reset value, the filter time and the period counter from the image; nothing else of CSU
changes. -/
def Sys2Proof.Machine.ClocksFromImage (im : Image) (s t : State) : Prop :=
  t.csu = { s.csu with clocks := t.csu.clocks, stopFilter := im.clocks.stopFilter, period := t.csu.period } ∧
  (∀ c : ClockId, let k := im.clocks.clocks[c]
    t.csu.clocks[c] = { s.csu.clocks[c] with
      dir := k.dir, limit := k.limit, linked := k.linked, warning := k.warning, horn := k.horn, reset := k.reset }) ∧
  (im.clocks.period = none → t.csu.period = none) ∧
  ∀ k : CounterId, im.clocks.period = some k.val → t.csu.period = some k

/-- R185 to R187, R138: CONFIG_READ with an image that passes (what its sections' bytes spell: log entry 8)
goes to RESIDENT_LOAD with that image and no fault record, and MSE takes the image's alarm filter time; at a
cold start CSU takes its settings (R103), FMN the settings of R183 and LVA a last result of composition 0
with sums 0 (the sums are the model's choice: log entry 62), at a warm restart both keep theirs (CSU's
settings: the model's choice, log entry 72). With an image that fails, or a region left half programmed
(whose cause, NO_IMAGE or CRC, is free: log entry 10), it goes to SAFE with the fault record, DARK, the feed
lines deasserted and the horn idle; the clocks take the SAFE values of R103, and CQS's flag and count their
cold-start values (the model's choice: log entry 27), unless a warm restart is under way. -/
def Obligations.ConfigReadPassesOrEntersSafe : Prop :=
  (∀ (n : Nat) (lay : SectionLayout),
    readFlash n lay .silent = .error ⟨.noImage, none⟩ ∧
    (readFlash n lay .incomplete = .error ⟨.noImage, none⟩ ∨ readFlash n lay .incomplete = .error ⟨.crc, none⟩) ∧
    (∀ b f, imageFault b (imageOf lay b) = some f → readFlash n lay (.holds b) = .error f) ∧
    ∀ b, imageFault b (imageOf lay b) = none → readFlash n lay (.holds b) = .ok (imageOf lay b)) ∧
  ∀ s : State, s.cfl.startup = .configRead →
    (∀ im, readFlash s.freeCount s.cfl.layout s.cfl.flash = .ok im → Leaves .configReadComplete s fun t =>
      t.cfl = { s.cfl with startup := .residentLoad, fault := none, image := im } ∧
      t.links = s.links ∧ t.zones = s.zones ∧ t.ast = s.ast ∧ t.osu = s.osu ∧ t.cqs = s.cqs ∧
      t.mse = { s.mse with alarmFilter := im.alarm.filter } ∧ t.csu.score = s.csu.score ∧
      (s.cfl.restarting = true → t.csu = s.csu ∧ t.fmn = s.fmn) ∧
      (s.cfl.restarting = false → ClocksFromImage im s t ∧
        (∀ i : FeedId, (t.fmn.feeds[i]).tripped = (s.fmn.feeds[i]).tripped) ∧ ChannelsFromImage im t ∧
        ((∀ i : FeedId, (s.fmn.feeds[i]).tripped = false) → FeedsFromImage im t))) ∧
    (∀ f, readFlash s.freeCount s.cfl.layout s.cfl.flash = .error f → Leaves .configReadComplete s fun t =>
      t.cfl = { s.cfl with startup := .safe, fault := some f, restarting := false } ∧
      t.osu.seq = s.osu.seq ∧ t.osu.standing = .dark ∧ t.osu.testPending = false ∧
      (∀ i : FeedId, t.osu.feedLines[i] = false) ∧ t.csu.hornTime = 0 ∧ t.csu.hornLine = false ∧
      t.csu.score = s.csu.score ∧ t.exu = s.exu ∧ t.ast = s.ast ∧
      (s.cfl.restarting = true → t.cqs = s.cqs ∧ t.csu = { s.csu with hornTime := 0, hornLine := false }) ∧
      (s.cfl.restarting = false → t.cqs = { s.cqs with violation := false, discards := 0 } ∧
        t.csu = { s.csu with
          hornTime := 0, hornLine := false, stopFilter := 0, period := none, clocks := Vector.replicate 3
            { value := 0, dir := .down, limit := 5999999, linked := false, state := .set, warning := 0, armed := false,
              horn := false, reset := 0 } }) ∧
      ∀ i : FeedId, (t.fmn.feeds[i]).tripped = (s.fmn.feeds[i]).tripped)

/-- R81, R82: with the residents-loaded flag set nothing is loaded. Otherwise ids 0 to 7 are emptied and the
image's residents loaded by rising id, each from the blocks left: loaded, it is READY with the mean of its
sub-pixels as load figure; the first whose blocks exceed the free count ends the load and is the id named.
After the load the first fallback, by zone, that is not READY is named, and then the alarm asset. (These
orders are the model's choice: log entry 29.) -/
def Sys2Proof.Machine.ResidentsAreLoadedInOrder : Prop :=
  (∀ s : State, s.cfl.residentsLoaded = true → residentLoad s = (s, none)) ∧
  (∀ s : State, s.cfl.residentsLoaded = false → directoryOk s.ast.directory = true →
    let order := (List.range 8).filterMap fun i => s.cfl.image.residents.find? (·.id == i)
    let blocks := fun l : List ResidentCfg =>
      (l.map fun r => (r.shape.width * r.shape.height * r.shape.frames * 3072 + 131071) / 131072).sum
    let free := s.ast.freeBlocks + ((List.range 8).map fun i => (s.asset i).body.blocks).sum
    let u := (residentLoad s).1
    let holds := fun loaded : List ResidentCfg =>
      u = { s with ast := u.ast } ∧ u.ast.freeBlocks = free - blocks loaded ∧
      (∀ r ∈ loaded, u.asset r.id =
        { body := .ready r.shape r.data
            (byteSum r.data / (r.shape.width * r.shape.height * r.shape.frames * 3072)), refs := 0 }) ∧
      (∀ i, i < 8 → i ∉ loaded.map (·.id) → u.asset i = { body := .empty, refs := 0 }) ∧
      ∀ i, 8 ≤ i → u.asset i = s.asset i
    (blocks order ≤ free → (residentLoad s).2 = none ∧ holds order) ∧
    ∀ done r rest, order = done ++ r :: rest → blocks done ≤ free → free < blocks (done ++ [r]) →
      (residentLoad s).2 = some r.id ∧ holds done) ∧
  ∀ s : State,
    let named := s.cfl.image.zones.toList.filterMap (·.fallback) ++ [s.cfl.image.alarm.asset]
    let ready := fun id : Nat => (s.asset id).body.isReady = true
    (missingResident s = none ↔ ∀ id ∈ named, ready id) ∧
    ∀ id, missingResident s = some id ↔
      ∃ done rest, named = done ++ id :: rest ∧ (∀ j ∈ done, ready j) ∧ ¬ready id

/-- R81, R82: the reference counts as RUN is entered: for each READY asset one for each zone whose fallback
it is and one more where that is the zone's current content (every zone but Z15), one for the alarm asset,
one for the asset of a link evacuation that stands; every asset keeps its picture. -/
def Sys2Proof.Machine.ReferencesAreCountedAfresh (s t : State) : Prop :=
  ∀ id : Nat, t.asset id = { body := (s.asset id).body, refs :=
    if (s.asset id).body.isReady then
      ((allFin 16).map fun z => if (s.zoneCfg z).fallback = some id then (if z = 15 then 1 else 2) else 0).sum +
        (if s.cfl.image.alarm.asset = id then 1 else 0) + (if s.mse.emergency = .linkEvac id then 1 else 0)
    else 0 }

/-- R104: CSU's settings as a warm restart reaches RUN: warning values, horn enables, SHOT's reset value,
filter time and period counter from the image, the warning and reset values limited to the kept limit;
direction, limit and source too where the residents were not loaded; the warn-armed flag by R92. At a cold
start CSU stays as CONFIG_READ left it. -/
def Sys2Proof.Machine.ClocksAfterAWarmRestart (s t : State) : Prop :=
  (s.cfl.restarting = false → t.csu = s.csu) ∧
  (s.cfl.restarting = true → let im := s.cfl.image.clocks
    t.csu = { s.csu with clocks := t.csu.clocks, stopFilter := im.stopFilter, period := t.csu.period } ∧
    (im.period = none → t.csu.period = none) ∧ (∀ k : CounterId, im.period = some k.val → t.csu.period = some k) ∧
    ∀ c : ClockId,
      let k := if s.cfl.residentsLoaded then s.csu.clocks[c] else
        { s.csu.clocks[c] with
          dir := (im.clocks[c]).dir, limit := (im.clocks[c]).limit, linked := (im.clocks[c]).linked }
      let w := min (im.clocks[c]).warning k.limit
      t.csu.clocks[c] = { k with
        warning := w, horn := (im.clocks[c]).horn,
        reset := if c = 1 then min (im.clocks[c]).reset k.limit else k.reset,
        armed := k.dir == .down && 0 < w && w < k.value })

/-- R81, R186: RESIDENT_LOAD goes to SAFE when a resident asset does not load, or when a fallback or the
alarm asset is not READY, with cause RESIDENT and the id; otherwise to RUN with the first frame start: the
counter advanced by one, a black frame tagged with the counter as it stood, LIT, every zone (Z15 empty) and
claim stack down to its fallback, the references counted afresh, CSU's settings, and a rotation zone record
for each MAIN zone and each SPONSOR zone that follows no leader, fresh, with the hold set while an emergency
stands (R138, R149, R158). -/
def Sys2Proof.Machine.ResidentLoadEndsInRunOrSafe : Prop :=
  ∀ s : State, s.cfl.startup = .residentLoad →
    (∀ id, ((residentLoad s).2 = some id ∨
        (residentLoad s).2 = none ∧ missingResident (residentLoad s).1 = some id) →
      Leaves .residentLoadComplete s fun t =>
        t.cfl.startup = .safe ∧ t.cfl.fault = some ⟨.resident, some id⟩ ∧ t.osu.standing = .dark ∧
        (∀ i : FeedId, t.osu.feedLines[i] = false) ∧ t.osu.seq = s.osu.seq) ∧
    ((residentLoad s).2 = none → missingResident (residentLoad s).1 = none → Leaves .residentLoadComplete s fun t =>
      t.cfl.startup = .run ∧ t.cfl.residentsLoaded = true ∧ t.cfl.image = s.cfl.image ∧
      t.osu.seq = s.osu.seq + 1 ∧ t.osu.standing = .lit ∧ t.osu.testPending = false ∧ t.osu.built = none ∧
      (t.osu.scanning.any fun f => f.num.isNone && f.record.isNone && f.picture.isEmpty &&
        f.tag == BitVec.ofNat 8 s.osu.seq.toNat && f.mode == .lit) = true ∧
      (∀ z : ZoneId, (t.zones[z]).pending = none ∧ (t.zones[z]).shown = false ∧
        (t.zones[z]).current = (if z = 15 then .none else fallbackOf (s.cfl.image.zones[z])) ∧
        (t.zones[z]).stack = { rotation := fallbackOf (s.cfl.image.zones[z]), replay := none, takeover := none,
                               alert := none }) ∧
      t.csu.score = s.csu.score ∧ t.exu.contracts = s.exu.contracts ∧ ClocksAfterAWarmRestart s t ∧
      (directoryOk s.ast.directory = true → ReferencesAreCountedAfresh (residentLoad s).1 t) ∧
      t.mse = { s.mse with alarmFilter := s.cfl.image.alarm.filter } ∧ t.rot = { s.rot with zones := t.rot.zones } ∧
      ∀ z : ZoneId, t.rot.zones[z] =
        if (s.zoneCfg z).cls = .main ∨ (s.zoneCfg z).cls = .sponsor ∧ s.followerOf z = none then
          some { cursor := none, airing := none, ending := [], hold := decide (s.mse.emergency ≠ .none),
                 fallbackShown := true }
        else none)

/-- RESIDENT_LOAD: what it loads, what fails it, and the entry to RUN or to SAFE (R81, R82, R104, R138,
R149, R158, R186; log entry 29). -/
def Obligations.ResidentLoadEntersRunOrSafe : Prop :=
  ResidentsAreLoadedInOrder ∧ ResidentLoadEndsInRunOrSafe

/-! ## Links (section 1) -/

/-- R2, R3, R11: a good REQUEST frame other than HELLO on an UP link is appended to the request FIFO if an
entry is free and restarts the keepalive timer; with all 8 occupied it is answered FULL and not kept; on a
link in any other state it is answered NOT_UP, and a DOWN link goes to HELLO_WAIT (R4). A reply at arrival
is dropped when the transmit queue is full (R14). (That a WRITE_IMAGE_END still in PROGRAMMING on a link that
has ended and is UP again occupies no entry is the model's choice: log entry 69.) -/
def Sys2Proof.Machine.GoodRequestEntersTheFifo : Prop :=
  ∀ (l : Link) (r : Request) (s : State), s.serving = true → (s.links[l]).rx = [] → r.payload.length ≤ 1024 →
    r.code ≠ 1 →
    let k := some (s.params l).keepalive
    let told := fun (st : Status) (ls : LinkState) =>
      if ls.tx.length < 16 then { ls with tx := ls.tx ++ [TxFrame.reply r.tag r.code st .empty] } else ls
    ((s.links[l]).mode = .up → (s.links[l]).entries < 8 → exec (.frameReceive l (frameBytes 1 r)) s =
      .next { s with links := upd s.links l fun ls => { ls with keepalive := k, fifo := ls.fifo ++ [r] } }) ∧
    ((s.links[l]).mode = .up → 8 ≤ (s.links[l]).entries → exec (.frameReceive l (frameBytes 1 r)) s =
      .next { s with links := upd s.links l fun ls => told .full { ls with keepalive := k } }) ∧
    ((s.links[l]).mode = .helloWait → exec (.frameReceive l (frameBytes 1 r)) s =
      .next { s with links := upd s.links l fun ls => told .notUp { ls with keepalive := k } }) ∧
    ((s.links[l]).mode = .down → exec (.frameReceive l (frameBytes 1 r)) s =
      .next { s with links := upd s.links l fun ls => told .notUp { ls with mode := .helloWait, keepalive := k } }) ∧
    ((s.links[l]).mode = .lapsed → exec (.frameReceive l (frameBytes 1 r)) s =
      .next { s with links := upd s.links l fun ls => told .notUp ls })

/-- R3, R4: a good frame of kind REPLY or NOTICE that arrives has no effect but that of a good frame: it
restarts the keepalive timer in HELLO_WAIT and UP, and moves a DOWN link to HELLO_WAIT with its timer
running. -/
def Sys2Proof.Machine.OtherKindsRestartTheKeepalive : Prop :=
  ∀ (l : Link) (kind : Nat) (r : Request) (s : State), kind = 2 ∨ kind = 3 → s.serving = true → (s.links[l]).rx = [] →
    r.payload.length ≤ 1024 →
    let k := some (s.params l).keepalive
    exec (.frameReceive l (frameBytes kind r)) s = .next { s with links := upd s.links l fun ls =>
      { ls with mode := if ls.mode = .down then .helloWait else ls.mode,
                keepalive := if ls.mode = .lapsed then ls.keepalive else k } }

/-- R2: a length above 1,024 makes a bad-length frame: it is discarded at the length field, counted (the
count stays at 65,535), and the hunt for sync goes on at the byte after its sync byte. -/
def Sys2Proof.Machine.BadLengthFrameIsCounted : Prop :=
  ∀ (l : Link) (hi lo : Byte) (s : State), s.serving = true → (s.links[l]).rx = [] →
    1024 < hi.toNat * 256 + lo.toNat →
    exec (.badLengthFrame l [165, hi, lo]) s = .next { s with links := upd s.links l fun ls =>
      { ls with rx := [hi, lo].dropWhile (· != 165), frameErrors := min (ls.frameErrors + 1) (max 65535 ls.frameErrors) } }

/-- R2, R190: a frame whose CRC-16 does not match, or whose kind is none of 1 to 3, is discarded and counted
(the count stays at 65,535), and the hunt for sync goes on at the byte after its sync byte. -/
def Sys2Proof.Machine.BadFrameIsCounted : Prop :=
  ∀ (l : Link) (kind tag code hi lo : Byte) (p more : List Byte) (s : State), s.serving = true → (s.links[l]).rx = [] →
    p.length ≤ 1024 →
    let covered := field 2 p.length ++ [kind, tag, code] ++ p
    crc16 covered ≠ hi.toNat * 256 + lo.toNat ∨ kind.toNat < 1 ∨ 3 < kind.toNat →
    exec (.frameReceive l (165 :: (covered ++ [hi, lo] ++ more))) s =
      exec (.frameReceive l (covered ++ [hi, lo] ++ more)) { s with links := upd s.links l fun ls =>
        { ls with frameErrors := min (ls.frameErrors + 1) (max 65535 ls.frameErrors) } }

/-- R14, R15, R190: the oldest frame of a link that is not DOWN goes out as a REPLY (kind 2) with the
request's tag and code, its payload beginning with the status code, or as a NOTICE (kind 3) with tag 0 and
the notice code, with its length and CRC-16: bytes that a receiver of R2 takes as that frame. The status and
notice codes are those of 13.1. (Where no rule gives the payload's layout its bytes are free: log entry 25.) -/
def Sys2Proof.Machine.FramesAreSentAsBytes : Prop :=
  (∀ (s : State) (l : Link), ((s.links[l]).mode = .down ∨ (s.links[l]).tx = [] → s.onLine l = []) ∧
    ∀ f rest, (s.links[l]).mode ≠ .down → (s.links[l]).tx = f :: rest → s.onLine l = f.bytes) ∧
  (∀ (tag code : Byte) (st : Status) (b : ReplyBody), (TxFrame.reply tag code st b).bytes =
    frameBytes 2 { tag := tag, code := code, payload := (BitVec.ofNat 8 st.code :: b.payload).take 1024 }) ∧
  (∀ l : List Byte, (ReplyBody.bytes l).payload = l) ∧ ReplyBody.empty.payload = [] ∧
  (∀ n : Notice, (TxFrame.notice n).bytes =
    frameBytes 3 { tag := 0, code := BitVec.ofNat 8 (noticeCode n.kind), payload := (noticeFields n).take 1024 }) ∧
  (∀ (kind : Nat) (r : Request), 1 ≤ kind → kind ≤ 3 → r.payload.length ≤ 1024 →
    framing (frameBytes kind r) = .good kind r []) ∧
  [Status.ok, .full, .notUp, .denied, .form, .range, .state, .held, .inUse, .noAsset, .noSpace, .unknown,
    .configFault].map Status.code = [0, 1, 2, 3, 4, 5, 7, 8, 9, 10, 11, 12, 13] ∧
  [NoticeKind.clockEvent, .claimChange, .cueState, .msgState, .airingClosed, .makegoodDropped, .triggerLost, .feedState,
    .chainState, .assetState].map noticeCode = [1, 2, 3, 4, 5, 6, 7, 8, 9, 10]

/-- What the receiver makes of a good request frame, of a good frame of another kind, a bad-length frame,
and a frame with a bad CRC or a bad kind (R2, R3, R4, R11; log entry 69), and the bytes of the frames the
part sends (R190; log entry 25). -/
def Obligations.FramesReceived : Prop :=
  GoodRequestEntersTheFifo ∧ OtherKindsRestartTheKeepalive ∧ BadLengthFrameIsCounted ∧ BadFrameIsCounted ∧ FramesAreSentAsBytes

/-- R4, R5: a well-formed HELLO naming the configured role (in SAFE, any role) brings a link in any state to
UP, with the keepalive timer running and no hold-over, and is answered OK with the identity. One that names
another role is answered DENIED, and a malformed one (a payload that is not one byte, or a role code above
4) FORM: an UP or HELLO_WAIT link stays and its keepalive timer restarts, a LAPSED link stays with its
hold-over, a DOWN link goes to HELLO_WAIT. With the stream-owner link coming UP from DOWN or HELLO_WAIT in
RUN the stream goes UP with one credit for each FREE slot, and the return lane takes a reset mark and then
one grant for each of them (R105, R107). -/
def Obligations.HelloBringsTheLinkUp : Prop :=
  ∀ (l : Link) (tag : Byte) (s : State), s.serving = true →
    let k := some (s.params l).keepalive
    let identity := TxFrame.reply tag 1 .ok (.identity Config.familyCode Config.siliconRevision Config.uniqueNumber
      (s.params l).role (s.params l).rights s.osu.seq)
    let told := fun (f : TxFrame) (tx : List TxFrame) => if tx.length < 16 then tx ++ [f] else tx
    let refused := fun (st : Status) => Host.Outcome.next (φ := Fault) (ρ := Refusal) { s with
      links := upd s.links l fun ls => { ls with
        mode := if ls.mode = .down then .helloWait else ls.mode,
        keepalive := if ls.mode = .lapsed then ls.keepalive else k,
        tx := told (.reply tag 1 st .empty) ls.tx } }
    (∀ (c : Byte) (role : Role), roleOf c.toNat = some role →
      (s.cfl.startup = .safe ∨ (s.params l).role = role → Leaves (.hello l tag [c]) s fun t =>
        t.links = (upd s.links l fun ls =>
          { ls with mode := .up, keepalive := k, tx := told identity ls.tx,
                    holdOver := if ls.mode = .lapsed then none else ls.holdOver }) ∧
        ((s.inRun = true ∧ s.owner = some l ∧ ((s.links[l]).mode = .down ∨ (s.links[l]).mode = .helloWait)) →
          let free := 120 - s.cqs.slots.length
          t.cqs = { s.cqs with
            streamUp := true, credits := free, lane := s.cqs.lane ++ .resetMark :: List.replicate free .grant }) ∧
        (¬(s.inRun = true ∧ s.owner = some l ∧ ((s.links[l]).mode = .down ∨ (s.links[l]).mode = .helloWait)) →
          t.cqs = s.cqs) ∧ t.zones = s.zones ∧ Elsewhere s t) ∧
      (s.cfl.startup ≠ .safe → (s.params l).role ≠ role → exec (.hello l tag [c]) s = refused .denied)) ∧
    ∀ p : List Byte, p.length ≠ 1 ∨ 4 < byteAt p 0 → exec (.hello l tag p) s = refused .form

/-- R6: the keepalive timer expiring in HELLO_WAIT returns the link to DOWN, its transmit queue kept (log
entry 23); in UP it makes the link LAPSED with the hold-over timer running; a stopped timer does not expire
(log entry 3). A hold-over time of 0 ends the link at once (R8). -/
def Sys2Proof.Machine.KeepaliveExpiryLapsesTheLink : Prop :=
  ∀ (l : Link) (o : LinkEndOrder) (s : State),
    ((s.links[l]).keepalive = none → exec (.keepaliveExpiry l o) s = .next s) ∧
    ((s.links[l]).keepalive.isSome = true → (s.links[l]).mode = .helloWait → exec (.keepaliveExpiry l o) s =
      .next { s with links := upd s.links l fun ls => { ls with mode := .down, keepalive := none } }) ∧
    ((s.links[l]).keepalive.isSome = true → (s.links[l]).mode = .up →
      (0 < (s.params l).holdOver → exec (.keepaliveExpiry l o) s = .next { s with links := upd s.links l fun ls =>
        { ls with mode := .lapsed, keepalive := none, holdOver := some (s.params l).holdOver } }) ∧
      ((s.params l).holdOver = 0 → Leaves (.keepaliveExpiry l o) s fun t => (t.links[l]).mode = .down))

/-- R8: the executing request of a link that ends runs to its end, by the row of its code and with its reply
discarded (RESTART with no more than that: `RestartLostWithItsLink` says what its lost reply begins). What
still executes then is a WRITE_IMAGE_END in PROGRAMMING only. (The row is taken in the step that ends the
link: log entry 48.) -/
def Sys2Proof.Machine.RequestRunsOutAtLinkEnd : Prop :=
  ∀ (l : Link) (s : State), (s.request l = none → runOut l s = s) ∧
    ∀ (r : Request) (o : Bool), s.request l = some (r, o) →
      let t := { s with links := upd s.links l fun ls => { ls with executing := .running r true } }
      let evacuates := r.payload.length = 12 ∧ byteAt r.payload 2 = 3
      (∀ e ∈ payloadLengths, e.2.1 = r.code.toNat → e.2.1 ≠ 112 → (e.2.1 = 64 → ¬evacuates) →
        exec (e.1 l) t = .next (runOut l s)) ∧
      (r.code.toNat = 64 → evacuates → exec (.postEvacuate l) t = .next (runOut l s)) ∧
      (r.code.toNat = 115 → exec (.writeImageEnd l) t = .next (runOut l s)) ∧
      (r.code.toNat = 112 →
        runOut l s = { s with links := upd s.links l fun ls => { ls with executing := .idle } }) ∧
      (groupOf r.code.toNat ≠ none → (runOut l s).request l ≠ none →
        r.code.toNat = 115 ∧ ∃ d, (runOut l s).cfl.staging = .programming l d)

/-- R8, R48, R74: the hold-over timer of a LAPSED link expiring ends it: after its executing request has run
to its end it is DOWN, its timers stopped, its FIFO and transmit queue empty, its overrun flag clear, its
frame-error count kept; it holds no claim and loads no asset any more. The scan, the clocks, the score and
the feeds are not tied to a link. (An OK RESTART reply lost with it begins the warm restart:
`RestartLostWithItsLink`.) -/
def Sys2Proof.Machine.HoldOverExpiryEndsTheLink : Prop :=
  ∀ (l : Link) (o : LinkEndOrder) (s : State), (s.links[l]).mode = .lapsed → (s.links[l]).holdOver.isSome = true →
    losesRestart l s = false → directoryOk s.ast.directory = true →
    let ran := runOut l s
    Leaves (.holdOverExpiry l o) s fun t =>
      (t.links[l]).mode = .down ∧ (t.links[l]).holdOver = none ∧ (t.links[l]).keepalive = none ∧
      (t.links[l]).fifo = [] ∧ (t.links[l]).tx = [] ∧ (t.links[l]).overrun = false ∧
      (t.links[l]).frameErrors = (s.links[l]).frameErrors ∧
      (∀ r b, ran.request l = some (r, b) → (t.links[l]).executing = .running r true) ∧
      (ran.request l = none → (t.links[l]).executing = .idle) ∧ HoldsNoClaimOrLoad t l ∧ Elsewhere ran t

/-- R120: the stream-owner link ending takes the stream DOWN with no credits and ends every cue in the
queue: no lane has one of them as its active cue, and of their slots only those with a read mark are still
FULL. The end of any other link leaves CQS as the link's last request left it. -/
def Sys2Proof.Machine.OwnerLinkEndEndsTheCues : Prop :=
  ∀ (l : Link) (o : LinkEndOrder) (s : State), (s.links[l]).mode = .lapsed → (s.links[l]).holdOver.isSome = true →
    losesRestart l s = false → slotsOk s.cqs.slots = true →
    (s.owner = some l → Leaves (.holdOverExpiry l o) s fun t =>
      t.cqs.streamUp = false ∧ t.cqs.credits = 0 ∧ t.cqs.queue = [] ∧
      ∀ q ∈ (runOut l s).cqs.queue, t.cqs.lanes[q.zone] ≠ some q.id ∧
        ∀ i sl, t.slot i = some sl → sl.cue = q.id → sl.readMark = true) ∧
    (s.owner ≠ some l → Leaves (.holdOverExpiry l o) s fun t => t.cqs = (runOut l s).cqs)

/-- R17, R189: a link that ends with an OK RESTART reply not yet sent (queued, waiting for room, or that of
the RESTART it executes) loses it, and the warm restart begins at that moment: the part leaves RUN or SAFE
for CONFIG_READ with every link at its reset value. -/
def Sys2Proof.Machine.RestartLostWithItsLink : Prop :=
  (∀ f : TxFrame, f.restarts = true ↔ ∃ tag b, f = .reply tag 112 .ok b) ∧
  (∀ (l : Link) (s : State), losesRestart l s = true ↔
    (∃ f ∈ (s.links[l]).tx, f.restarts = true) ∨
    (∃ f, (s.links[l]).executing = .replyWaiting f ∧ f.restarts = true) ∨
    ∃ r o, s.request l = some (r, o) ∧ r.code.toNat = 112 ∧ r.payload = [] ∧
      ∀ w d, s.cfl.staging ≠ .programming w d) ∧
  ∀ (l : Link) (o : LinkEndOrder) (s : State), losesRestart l s = true →
    let restarted := fun t : State => t.cfl.startup = .configRead ∧ t.cfl.restarting = true ∧
      (∀ m : Link, t.links[m] = LinkState.reset) ∧ (∀ i : FeedId, t.osu.feedLines[i] = false) ∧
      t.osu.scanning = none ∧ t.cqs.queue = [] ∧ t.mse.queue = [] ∧ t.rot.ring = [] ∧ t.exu.records = []
    ((s.links[l]).mode = .lapsed → (s.links[l]).holdOver.isSome = true → Leaves (.holdOverExpiry l o) s restarted) ∧
    ((s.links[l]).mode = .up → (s.links[l]).keepalive.isSome = true → (s.params l).holdOver = 0 →
      Leaves (.keepaliveExpiry l o) s restarted)

/-- The keepalive and hold-over timers of a link expiring (R6, R8; log entries 3, 23 and 48), and what
becomes of its executing request, of the stream and its cues (R120), and of a RESTART reply (R17). -/
def Obligations.LinkLapsesAndEnds : Prop :=
  KeepaliveExpiryLapsesTheLink ∧ RequestRunsOutAtLinkEnd ∧ HoldOverExpiryEndsTheLink ∧ OwnerLinkEndEndsTheCues ∧
    RestartLostWithItsLink

/-- R9, R10, R12: the oldest request of an UP link that executes none leaves the FIFO; an undefined code is
answered FORM, in SAFE a request not admitted there CONFIG_FAULT, outside SAFE one its role and rights do
not admit DENIED; any other is handed to its owner. With 16 frames in the transmit queue the refusal waits,
the link executing no other request meanwhile (R14). While a request of the link executes, or its reply
waits, none starts. (That a WRITE_IMAGE_END still in PROGRAMMING on a link that has ended and is UP again
counts as executing there, so that none starts until programming ends, is the model's choice: log entry
69.) -/
def Sys2Proof.Machine.RequestStartChecksCodeAndRole : Prop :=
  ∀ (l : Link) (r : Request) (rest : List Request) (s : State), s.serving = true → (s.links[l]).mode = .up →
    (s.links[l]).fifo = r :: rest →
    let refused := fun (st : Status) => Host.Outcome.next (φ := Fault) (ρ := Refusal) { s with
      links := upd s.links l fun ls =>
        if ls.tx.length < 16 then { ls with fifo := rest, tx := ls.tx ++ [.reply r.tag r.code st .empty] }
        else { ls with fifo := rest, executing := .replyWaiting (.reply r.tag r.code st .empty) } }
    let started := Host.Outcome.next (φ := Fault) (ρ := Refusal) { s with
      links := upd s.links l fun ls => { ls with fifo := rest, executing := .running r false } }
    ((s.links[l]).executing ≠ .idle → exec (.requestStart l) s = .next s) ∧
    ((s.links[l]).executing = .idle →
      (groupOf r.code.toNat = none → exec (.requestStart l) s = refused .form) ∧
      ∀ g, groupOf r.code.toNat = some g →
        (s.cfl.startup = .safe →
          (r.code.toNat ∈ [2, 112, 113, 114, 115] → exec (.requestStart l) s = started) ∧
          (r.code.toNat ∉ [2, 112, 113, 114, 115] → exec (.requestStart l) s = refused .configFault)) ∧
        (s.cfl.startup ≠ .safe →
          (admits (s.params l) g = true → exec (.requestStart l) s = started) ∧
          (admits (s.params l) g = false → exec (.requestStart l) s = refused .denied)))

/-- R14: a reply that waits enters the transmit queue when an entry is free, and not before; the oldest entry is freed when
its last byte has been sent, in every link state but DOWN; the sending of an OK RESTART reply begins the
warm restart (R17). -/
def Sys2Proof.Machine.TransmitQueueMoves : Prop :=
  ∀ (l : Link) (f : TxFrame) (rest : List TxFrame) (s : State),
    ((s.links[l]).executing = .replyWaiting f → (s.links[l]).tx.length < 16 → exec (.replyEntersQueue l) s =
      .next { s with links := upd s.links l fun ls => { ls with tx := ls.tx ++ [f], executing := .idle } }) ∧
    (16 ≤ (s.links[l]).tx.length → exec (.replyEntersQueue l) s = .next s) ∧
    ((s.links[l]).mode ≠ .down → (s.links[l]).tx = f :: rest →
      (f.restarts = false → exec (.transmitFrameSent l) s =
        .next { s with links := upd s.links l fun ls => { ls with tx := rest } }) ∧
      (f.restarts = true → Leaves (.transmitFrameSent l) s fun t =>
        t.cfl.startup = .configRead ∧ t.cfl.restarting = true ∧ ∀ m : Link, (t.links[m]).mode = .down))

/-- Requests leaving the FIFO and frames entering and leaving the transmit queue (R9 to R14; log entry 69). -/
def Obligations.RequestsStartAndRepliesMove : Prop :=
  RequestStartChecksCodeAndRole ∧ TransmitQueueMoves

/-- R16: LINK_STATUS reports the requesting link with the parameters it runs with (in SAFE the SAFE values,
whose empty protection range reads base 1 and limit 0: log entry 50) and the link's state, LAPSED where it
lapsed since the request started (log entry 51), and then clears its notice-overrun flag; nothing else
changes. The subscription set is two bytes whose bit k − 1 is set when the notice of code k is subscribed
(R190). -/
def Obligations.LinkStatusReportsAndClearsOverrun : Prop :=
  ∀ (l : Link) (s : State),
    Answers (.linkStatus l) l 2 [] s
      { s with links := upd s.links l fun ls => { ls with overrun := false } } .ok
      (.linkStatus { link := l, mode := (s.links[l]).mode, params := s.params l, frameErrors := (s.links[l]).frameErrors,
                     requests := (s.links[l]).entries, notices := (s.links[l]).noticeCount,
                     overrun := (s.links[l]).overrun, subscriptions := subscriptionField (s.params l).subs }) ∧
    (∀ n : NoticeKind, (subscriptionField (s.params l).subs).length = 2 ∧
      (half (subscriptionField (s.params l).subs) 0).testBit (noticeCode n - 1) = decide (n ∈ (s.params l).subs)) ∧
    (s.cfl.startup = .run → s.params l = s.cfl.image.linkTable.links[l]) ∧
    (s.cfl.startup = .safe → s.params l = safeParams)

/-! ## The output scan (section 2) -/

/-- R20, R21, R27: at a frame start the built frame becomes the scanning frame, tagged with the low 8 bits
of its number, in mode TEST when a test is pending and in the standing mode otherwise; with none built a
black frame tagged from the counter as it stood. The counter advances by one and is the number of the
composition that begins. (The second clause is for a period with nothing outstanding; what is outstanding
completes first, log entry 6. `windowOpen` is that the frame's scan completion is to come; whether a chain's
own return window has opened comes with the word, log entry 18.) -/
def Sys2Proof.Machine.FrameStartScansTheBuiltFrame : Prop :=
  ∀ s : State, s.inRun = true →
    (Leaves .frameStart s fun t => t.osu.seq = s.osu.seq + 1 ∧ t.cmp.comp.phase = .begun ∧
      t.cmp.comp.num = s.osu.seq + 1 ∧ t.osu.built = none ∧ t.osu.testPending = false ∧
      t.osu.standing = s.osu.standing ∧ t.csu = s.csu) ∧
    (openScan s = none → s.cmp.comp.phase = .idle → Leaves .frameStart s fun t =>
      let mode := if s.osu.testPending then ScanMode.test else if s.osu.standing = .dark then .dark else .lit
      (∀ b, s.osu.built = some b → t.osu.scanning = some
        { num := some b.record.num, tag := BitVec.ofNat 8 b.record.num.toNat, mode := mode, picture := b.picture,
          record := some b.record, returns := Vector.replicate 48 none, windowOpen := true }) ∧
      (s.osu.built = none → t.osu.scanning = some
        { num := none, tag := BitVec.ofNat 8 s.osu.seq.toNat, mode := mode, picture := [], record := none,
          returns := Vector.replicate 48 none, windowOpen := true }) ∧
      t.osu.chains = s.osu.chains ∧ t.zones = s.zones ∧ t.exu = s.exu)

/-- R173: a frame start triggers a monitor scan. With one in flight the trigger is skipped and counted (up
to 65,535) and the scan runs on; otherwise a scan starts with the enabled channels by rising number, the
selected range of each current channel taking effect; with no channel enabled it is complete at once. -/
def Sys2Proof.Machine.FrameStartTriggersAMonitorScan : Prop :=
  ∀ s : State, s.inRun = true → Leaves .frameStart s fun t =>
    (∀ m, s.fmn.scan = some m → t.fmn.scan = some m ∧ t.fmn.channels = s.fmn.channels ∧
      t.fmn.skipped = if s.fmn.skipped < 65535 then s.fmn.skipped + 1 else s.fmn.skipped) ∧
    (s.fmn.scan = none → t.fmn.skipped = s.fmn.skipped ∧
      (∀ i : FeedId, (∃ lo hi, (s.fmn.channels[currentOf i]).setting = .current lo hi) →
        (t.fmn.channels[currentOf i]).effect = (s.fmn.channels[currentOf i]).selected) ∧
      let todo := (allFin 8).filter fun i => (s.fmn.channels[i]).enabled
      (todo ≠ [] → t.fmn.scan = some { todo := todo, values := [] }) ∧ (todo = [] → t.fmn.scan = none))

/-- A frame start: the scanning frame, the counter, the composition, and the monitor scan (R20, R21, R27,
R173; log entries 6 and 18). -/
def Obligations.FrameStartTakesTheBuiltFrame : Prop :=
  FrameStartScansTheBuiltFrame ∧ FrameStartTriggersAMonitorScan

/-- R23: one return word of a used chain is accepted per frame, from the moment the chain's first block has
been sent (`sent`: log entry 18) to the scan completion; every other is discarded, and changes nothing. The
row completes in every state and with every word. -/
def Sys2Proof.Machine.ReturnWordIsAcceptedOncePerFrame : Prop :=
  (∀ (c : ChainId) (sent : Bool) (tag : Byte) (count : Nat) (s : State),
    let accepted := fun f : ScanFrame => sent = true ∧ s.osu.scanning = some f ∧ f.windowOpen = true ∧
      (s.osu.chains[c]).state ≠ .unused ∧ f.returns[c] = none
    ∃ t, exec (.returnWord c sent (tag, count)) s = .next t ∧
      (∀ f, accepted f → t = { s with osu := { s.osu with
        scanning := some { f with returns := upd f.returns c fun _ => some (tag, count) } } }) ∧
      ((∀ f, ¬accepted f) → t = s)) ∧
  ∀ (c : ChainId) (tag : Byte) (count : Nat) (s : State),
    (∀ f, s.osu.scanning = some f →
      (f.windowOpen = true → (s.osu.chains[c]).state ≠ .unused → f.returns[c] = none →
        exec (.returnWord c true (tag, count)) s = .next { s with osu := { s.osu with
          scanning := some { f with returns := upd f.returns c fun _ => some (tag, count) } } }) ∧
      (f.windowOpen = false ∨ (s.osu.chains[c]).state = .unused ∨ f.returns[c] ≠ none →
        exec (.returnWord c true (tag, count)) s = .next s)) ∧
    (s.osu.scanning = none → exec (.returnWord c true (tag, count)) s = .next s) ∧
    exec (.returnWord c false (tag, count)) s = .next s

/-- R24's table, for a used chain: what one good or bad return makes of its health record. -/
def Sys2Proof.Machine.ChainHealthTable : Prop :=
  ∀ r : ChainRec,
    (r.state = .ok → r.judge true = r ∧ r.judge false = { r with state := .suspect, badRun := 1 }) ∧
    (r.state = .suspect → r.judge true = { r with state := .ok, badRun := 0 } ∧
      (r.badRun + 1 < 3 → r.judge false = { r with badRun := r.badRun + 1 }) ∧
      (3 ≤ r.badRun + 1 → r.judge false = { state := .fault, badRun := 0, goodRun := 0 })) ∧
    (r.state = .fault → r.judge false = { r with goodRun := 0 } ∧
      (r.goodRun + 1 < 8 → r.judge true = { r with goodRun := r.goodRun + 1 }) ∧
      (8 ≤ r.goodRun + 1 → r.judge true = { r with state := .ok, goodRun := 0 }))

/-- R23, R24, R25: the scan completion of the frame under scan closes its return windows and judges every
chain: left as it stands when a tile lies on a TRIPPED feed, good when the word accepted carries the frame's
tag and the chain's length, bad otherwise. The frame's record is then delivered, its dark flag set unless
the frame was scanned LIT: nothing is earned from a frame not scanned LIT. A frame without a record delivers
nothing. -/
def Sys2Proof.Machine.ScanCompletionJudgesChains : Prop :=
  ∀ (s : State) (f : ScanFrame), s.inRun = true → s.osu.scanning = some f → f.windowOpen = true →
    Leaves .scanCompletion s fun t =>
      t.osu.scanning = some { f with windowOpen := false } ∧
      (∀ c : ChainId,
        (onTrippedFeed s c = true → t.osu.chains[c] = s.osu.chains[c]) ∧
        (onTrippedFeed s c = false →
          (f.returns[c] = some (f.tag, chainLength s.cfl.image c) →
            t.osu.chains[c] = (s.osu.chains[c]).judge true) ∧
          (f.returns[c] ≠ some (f.tag, chainLength s.cfl.image c) →
            t.osu.chains[c] = (s.osu.chains[c]).judge false))) ∧
      (∀ rec, f.record = some rec →
        t.exu = (deliver { rec with dark := decide (f.mode ≠ .lit) } s).exu ∧ t.exu.creditedThrough = some rec.num ∧
        (f.mode ≠ .lit → ∀ c : ContractId, (t.exu.contracts[c]).earned = (s.exu.contracts[c]).earned ∧
          (t.exu.contracts[c]).remainder = (s.exu.contracts[c]).remainder ∧
          (t.exu.contracts[c]).state = (s.exu.contracts[c]).state)) ∧
      (f.record = none → t.exu = s.exu) ∧ t.zones = s.zones ∧ t.csu = s.csu ∧ t.osu.seq = s.osu.seq ∧
      t.osu.feedLines = s.osu.feedLines

/-- R160: an entry of a frame record taken into its open record, which is opened if there is none: a dark
record and an entry below the contract's min level or min visible percent give no credit; any other gives
the contract and the open record its credit. No other contract and no other open record changes. -/
def Sys2Proof.Machine.FrameEntryIsCredited : Prop :=
  ∀ (dark : Bool) (s : State) (e : FrameEntry),
    let k := s.exu.contracts[e.contract]
    let r := (s.openRecord e.key).getD
      { key := e.key, contract := e.contract, delivered := 0, mark := none, holdsRef := false }
    let qualifies := k.minLevel ≤ e.level ∧ k.minVisible * e.area ≤ e.visible * 100
    let t := creditEntry dark s e
    (dark = true ∨ ¬qualifies → t.exu.contracts = s.exu.contracts ∧ t.openRecord e.key = some r) ∧
    (dark = false → qualifies → t.exu.contracts = (upd s.exu.contracts e.contract fun k => (k.credit e.visible e.level).1) ∧
      t.openRecord e.key =
        some { r with delivered := min (r.delivered + (k.credit e.visible e.level).2) 4294967295 }) ∧
    (∀ key, key ≠ e.key → t.openRecord key = s.openRecord key) ∧ t = { s with exu := t.exu } ∧
    t.exu.log = s.exu.log ∧ t.exu.creditedThrough = s.exu.creditedThrough

/-- R160, R163, R166: a delivered record's entries are taken one after another (`u`), then the credited-through
number is the record's, and the open records whose mark's last frame it reaches close, in order of opening
(the model's choice: log entry 61). Every contract has what the entries gave it: earned, remainder, state
and terms; a closure changes references only. The open records left are those of `u` that do not close, with
their delivered; each that closes adds its log entry with its delivered, the oldest beyond 256 being pushed
out (R166). The premises: no two open records of one key, a log within its bound. -/
def Sys2Proof.Machine.FrameRecordIsCredited : Prop :=
  ∀ (rec : FrameRecord) (s : State),
    let u := rec.entries.foldl (creditEntry rec.dark) s
    let through := { u with exu := { u.exu with creditedThrough := some rec.num } }
    let closing := u.exu.records.filterMap fun r => r.mark.bind fun m =>
      if earlier rec.num m.last then none else some (r, m)
    let entry := fun e : OpenRecord × Mark => logEntryOf false (match e.2.key with
      | .airing _ => (makegoodOf u e.1 e.2).isSome
      | .cue _ _ => false) e.1 e.2
    let t := deliver rec s
    t = closing.foldl (fun v e => closeRecord false e.1 e.2 v) through ∧
    t.exu.creditedThrough = some rec.num ∧
    (∀ c : ContractId, { t.exu.contracts[c] with refs := 0 } = { u.exu.contracts[c] with refs := 0 }) ∧
    ((s.exu.records.map (·.key)).Nodup → t.exu.records = u.exu.records.filter fun r => !(r.mark.any fun m =>
      !earlier rec.num m.last)) ∧
    (s.exu.log.length ≤ 256 →
      t.exu.log = (s.exu.log ++ closing.map entry).drop (s.exu.log.length + closing.length - 256)) ∧
    (closing = [] → t = through) ∧ t.zones = s.zones ∧ t.cqs = s.cqs ∧ Elsewhere s t

/-- Return words, the scan completion that judges them, and the record it delivers (R23 to R25, R160, R163,
R166; log entries 18 and 61). -/
def Obligations.ReturnWordsAreJudged : Prop :=
  ReturnWordIsAcceptedOncePerFrame ∧ ScanCompletionJudgesChains ∧ FrameEntryIsCredited ∧ FrameRecordIsCredited

/-- R24: the rows CHAIN_FAULT and CHAIN_RECOVER are the scan completion, at which the third bad return of a
SUSPECT chain puts it in FAULT and the eighth good return of a FAULT chain puts it in OK (log entry 2). -/
def Sys2Proof.Machine.ChainFaultAndRecovery : Prop :=
  ∀ (s : State) (f : ScanFrame) (c : ChainId), s.inRun = true → s.osu.scanning = some f → f.windowOpen = true →
    onTrippedFeed s c = false →
    ((s.osu.chains[c]).state = .suspect → 2 ≤ (s.osu.chains[c]).badRun →
      f.returns[c] ≠ some (f.tag, chainLength s.cfl.image c) →
        exec (.chainFault c) s = exec .scanCompletion s ∧
        Leaves (.chainFault c) s fun t => t.osu.chains[c] = { state := .fault, badRun := 0, goodRun := 0 }) ∧
    ((s.osu.chains[c]).state = .fault → 7 ≤ (s.osu.chains[c]).goodRun →
      f.returns[c] = some (f.tag, chainLength s.cfl.image c) →
        exec (.chainRecover c) s = exec .scanCompletion s ∧
        Leaves (.chainRecover c) s fun t => (t.osu.chains[c]).state = .ok ∧ (t.osu.chains[c]).goodRun = 0)

/-- R24: the scan completion hands LC a CHAIN_STATE for each chain that enters or leaves FAULT, by rising
number (log entry 20), with the new state and the number of the frame, 0 for the black frame; the record is
delivered after that. -/
def Sys2Proof.Machine.ChainMovesAreTold : Prop :=
  ∀ (s : State) (f : ScanFrame), s.inRun = true → s.osu.scanning = some f → f.windowOpen = true →
    ∃ u : State, u.exu = s.exu ∧ u.cfl = s.cfl ∧ u.osu.seq = s.osu.seq ∧
      u.links = (notifyAll (((allFin 48).filter fun c =>
        decide ((s.osu.chains[c]).state = .fault) != decide ((u.osu.chains[c]).state = .fault)).map fun c =>
          .chainState c (u.osu.chains[c]).state (f.num.getD 0)) s).links ∧
      (f.record = none → exec .scanCompletion s = .next u) ∧
      ∀ rec, f.record = some rec →
        exec .scanCompletion s = .next (deliver { rec with dark := decide (f.mode ≠ .lit) } u)

/-- The health records of chains: the return words they are judged by, each accepted once per frame from the
moment the chain's first block has been sent (R23; `sent` is the model's choice: log entry 18), the table of
R24, the completions at which a chain enters and leaves FAULT (log entry 2), and their notices (log entry
20). -/
def Obligations.ChainHealthMoves : Prop :=
  ReturnWordIsAcceptedOncePerFrame ∧ ChainHealthTable ∧ ChainFaultAndRecovery ∧ ChainMovesAreTold

/-- R26, R27: SET_DARK in LIT makes the standing mode DARK and resets every used chain to OK with both runs
0, with a CHAIN_STATE notice for each that was in FAULT, by rising number (log entry 20) and before the
reply (R15 leaves either order: the model's choice, log entry 55); in DARK it changes nothing. SET_LIT makes
it LIT. TEST_FRAME sets the test-pending flag, and is answered STATE when it is set. -/
def Sys2Proof.Machine.ScanModesAreSet : Prop :=
  ∀ (l : Link) (s : State),
    (s.osu.standing = .lit → Answers (.setDark l) l 96 [] s
      (notifyAll (((allFin 48).filter fun c => (s.osu.chains[c]).state == .fault).map fun c =>
          .chainState c .ok s.osu.seq)
        { s with osu := { s.osu with standing := .dark, chains := Vector.ofFn fun c : Fin 48 =>
          if (s.osu.chains[c]).state = .unused then s.osu.chains[c]
          else { state := .ok, badRun := 0, goodRun := 0 } } })
      .ok (.standing .dark)) ∧
    (s.osu.standing = .dark → Answers (.setDark l) l 96 [] s s .ok (.standing .dark)) ∧
    Answers (.setLit l) l 97 [] s { s with osu := { s.osu with standing := .lit } } .ok (.standing .lit) ∧
    (s.osu.testPending = false → Answers (.testFrame l) l 98 [] s
      { s with osu := { s.osu with testPending := true } } .ok .empty) ∧
    (s.osu.testPending = true → Refuses (.testFrame l) l 98 [] s .state)

/-- R27: the test pattern of a tile: 32 lines of 32 pixels of three sub-pixels, none above 64; a border of
one pixel; the two numerals of chain and position; elsewhere the feed's colour, feed 0 red, 1 green, 2 blue,
3 white, at one level above 0. (The border's and the numerals' colours, the numerals' pixels and the level
are free: log entry 14.) -/
def Sys2Proof.Machine.TestPatternShowsItsTile : Prop :=
  (∀ t : TileRec, (testTile t).length = 3072 ∧ ∀ p ∈ testTile t, p.toNat ≤ 64) ∧
  ∃ (border ink : Nat → Byte) (level : Byte), level ≠ 0 ∧
    ∀ (t : TileRec) (x y sub : Nat), x < 32 → y < 32 → sub < 3 →
      let edge := x = 0 ∨ x = 31 ∨ y = 0 ∨ y = 31
      let numeral := Config.testNumeral t.chain t.position x y = true
      let here := (testTile t)[(y * 32 + x) * 3 + sub]?
      (edge → here = some (border sub)) ∧ (¬edge → numeral → here = some (ink sub)) ∧
      (¬edge → ¬numeral → (t.feed = sub ∨ t.feed = 3 → here = some level) ∧
        (t.feed ≠ sub → t.feed ≠ 3 → here = some 0))

/-- R19, R22: a used chain is sent the scan tag of the scanning frame and one block for each position from 0
to its highest occupied one: at a position without a tile a filler block of level 0, at a tile's position
the tile as composed (LIT), level 0 (DARK) or its test pattern (TEST). An UNUSED chain is sent nothing. The
premise on two tiles of one position is R18's. -/
def Sys2Proof.Machine.ChainsAreSentTheirBlocks : Prop :=
  ∀ (s : State) (c : ChainId),
    let im := s.cfl.image
    let mine := fun t : TileRec => t ∈ im.geometry.tiles ∧ t.chain = c.val
    let black := List.replicate 3072 (0 : Byte)
    ((∀ t, ¬mine t) ∨ s.osu.scanning = none → chainData s c = none) ∧
    ∀ (f : ScanFrame) (own : TileRec), mine own → s.osu.scanning = some f →
      ∃ blocks, chainData s c = some (f.tag, blocks) ∧
        (∀ t, mine t → t.position < blocks.length) ∧ (∃ t, mine t ∧ blocks.length = t.position + 1) ∧
        ∀ p b, blocks[p]? = some b →
          ((∀ t, mine t → t.position ≠ p) → b = black) ∧
          ∀ t, mine t → t.position = p → (∀ u, mine u → u.position = p → u = t) →
            (f.mode = .lit → b = (f.picture[t.row * im.geometry.width + t.col]?).getD black) ∧
            (f.mode = .dark → b = black) ∧ (f.mode = .test → b = testTile t)

/-- The scan-mode requests (R26, R27; log entries 20 and 55), and what the chains are sent in each mode
(R19, R22, R27; log entry 14). -/
def Obligations.ScanModeRequests : Prop :=
  ScanModesAreSet ∧ TestPatternShowsItsTile ∧ ChainsAreSentTheirBlocks

/-! ## Composition (sections 3.4, 4 and 11.6) -/

/-- R37, R39, R40: at the adoption point pending content becomes current with the composition's number as
start frame; a pending GAP starts the zone's gap; a gap counts down, and at its end the top entry's content
becomes current (the row GAP_END, which is this adoption point: log entry 2); the recorded shown flags are
taken; Z15 follows the emergency state. Its start frame is the composition's number when it passes from NONE
to EVAC or to another asset, and stays while the asset at the adoption point is the one it shows, also where
the state came back to that asset since (the model's choice: log entry 66). -/
def Sys2Proof.Machine.AdoptionAdoptsPendingContent : Prop :=
  ∀ s : State, s.inRun = true → s.cmp.comp.phase = .begun → s.cmp.comp.passes = [] → s.followerOf 15 = none →
    (Leaves .adoptionPoint s fun t =>
      (∀ z : ZoneId, adopts s z = true →
        (∀ c, (s.zones[z]).pending = some c → (t.zones[z]).current = c ∧ (t.zones[z]).start = s.cmp.comp.num ∧
          (t.zones[z]).pending = none ∧ (t.zones[z]).gapLeft = if c = .gap then (s.zoneCfg z).gap else 0) ∧
        ((s.zones[z]).pending = none → (s.zones[z]).current = .gap →
          (2 ≤ (s.zones[z]).gapLeft → (t.zones[z]).current = .gap ∧ (t.zones[z]).gapLeft = (s.zones[z]).gapLeft - 1) ∧
          ((s.zones[z]).gapLeft ≤ 1 → (t.zones[z]).current = (s.zones[z]).stack.topContent ∧
            (t.zones[z]).start = s.cmp.comp.num ∧ (t.zones[z]).gapLeft = 0)) ∧
        ((s.zones[z]).pending = none → (s.zones[z]).current ≠ .gap → (t.zones[z]).current = (s.zones[z]).current)) ∧
      (∀ z : ZoneId, (t.zones[z]).shown = (s.zones[z]).recorded) ∧
      (s.mse.emergency = .none → (t.zones[(15 : Fin 16)]).current = .none) ∧
      (∀ a, s.mse.emergency = .linkEvac a ∨
          (s.mse.emergency = .alarmEvac ∨ s.mse.emergency = .alarmHeld) ∧ a = s.cfl.image.alarm.asset →
        (t.zones[(15 : Fin 16)]).current = .evac a ∧
        ((s.zones[(15 : Fin 16)]).current ≠ .evac a → (t.zones[(15 : Fin 16)]).start = s.cmp.comp.num) ∧
        ((s.zones[(15 : Fin 16)]).current = .evac a →
          (t.zones[(15 : Fin 16)]).start = (s.zones[(15 : Fin 16)]).start)) ∧
      Elsewhere s t) ∧
    ∀ z : ZoneId, adopts s z = true → (s.zones[z]).pending = none → (s.zones[z]).current = .gap →
      (s.zones[z]).gapLeft ≤ 1 → exec (.gapEnd z) s = exec .adoptionPoint s ∧
        Leaves (.gapEnd z) s fun t => (t.zones[z]).current = (s.zones[z]).stack.topContent

/-- A number in decimal without leading zeros. -/
def Sys2Proof.Machine.inDecimal (n : Nat) : List Glyph := ((toString n).toList.map fun c => Glyph.digit (c.toNat - 48))

/-- R60, R98: a clock's string has minutes, a colon and two digits of seconds from 600 tenths on, and tenths
after a full stop below, rounded up for a DOWN clock and down for an UP clock; a SCORE zone's string its
counters, each right-aligned in 3 characters, one space between them. The string of every zone with CLOCK or
SCORE content is read: the zone's clock source, GAME for a MAIN zone, the zone's counter list. (That the
adoption point reads them, R53 reading them in step 3, is the model's: log entry 5.) -/
def Sys2Proof.Machine.DisplayStringsAreRead : Prop :=
  (∀ k : ClockRec, k.value ≤ 5999999 →
    let tenths := if k.dir = .down then (k.value + 99) / 100 else k.value / 100
    let seconds := if k.dir = .down then (k.value + 999) / 1000 else k.value / 1000
    (600 ≤ tenths → clockString k =
      inDecimal (seconds / 60) ++ [.colon, .digit (seconds % 60 / 10), .digit (seconds % 60 % 10)]) ∧
    (tenths < 600 → clockString k = inDecimal (tenths / 10) ++ [.stop, .digit (tenths % 10)])) ∧
  (∀ vs : List Nat, (∀ v ∈ vs, v ≤ 999) → scoreString vs = List.intercalate [Glyph.space]
    (vs.map fun v => List.replicate (3 - (inDecimal v).length) Glyph.space ++ inDecimal v)) ∧
  ∀ (n : Seq) (s : State), let t := adoptionPoint n s
    let shows := fun (z : ZoneId) (c : Content) => (t.zones[z]).current == c
    let score := fun z : ZoneId => scoreString ((s.zoneCfg z).counters.map fun k => s.csu.score.toList.getD k 0)
    let source := fun z : ZoneId => if s.isMain z then (0 : ClockId) else clockOf (s.zoneCfg z).clockSource
    t.cmp.comp.strings = ((allFin 16).filter fun z => shows z .clock || shows z .score).map fun z =>
      (z, if shows z .score then score z else clockString s.csu.clocks[source z])

/-- R49: a follower of a mirror group copies its leader's current content and start frame; where the leader
shows its fallback or BLANK it shows its own fallback, with the composition's number as start frame when it
changes to it. Zones that follow no leader keep theirs. The premises are the grouping of R33: a zone follows
one leader, and no leader follows. -/
def Sys2Proof.Machine.FollowersCopyTheirLeaders : Prop :=
  ∀ (n : Seq) (s : State), (∀ x y z : ZoneId, y ∈ s.followers x → y ∈ s.followers z → x = z) →
    (∀ x y : ZoneId, y ∈ s.followers x → s.followers y = []) →
    let t := mirrorCopies n s
    (∀ x y : ZoneId, y ∈ s.followers x →
      ((s.zones[x]).current.isFallback = false →
        (t.zones[y]).current = (s.zones[x]).current ∧ (t.zones[y]).start = (s.zones[x]).start) ∧
      ((s.zones[x]).current.isFallback = true →
        (t.zones[y]).current = fallbackOf (s.zoneCfg y) ∧
        (t.zones[y]).start =
          if (s.zones[y]).current = fallbackOf (s.zoneCfg y) then (s.zones[y]).start else n)) ∧
    ∀ y : ZoneId, (∀ x : ZoneId, y ∉ s.followers x) → t.zones[y] = s.zones[y]

/-- R49, R58, R59, R156: the adoption point leaves a query to make for each MAIN zone with CLIP content, by
rising number. A query with others to come leaves what it does itself (`queryZone`, which O28 describes); it
passes on the contract and category of a cue that entered PLAYING with its attribution. With the last query
made, or none to make, every pass cuts the conflicting airings of each zone by rising number, a pass of
category 0 nothing, and then the followers take their copies. -/
def Sys2Proof.Machine.AdvanceEndsWithPassesAndCopies : Prop :=
  let ended := fun (n : Seq) (v : State) =>
    let w := mirrorCopies n (v.cmp.comp.passes.foldl (fun v p =>
      if p.2 = 0 then v else (allFin 16).foldl (conflictZone n p.1 p.2) v) v)
    { w with cmp := { w.cmp with comp := { w.cmp.comp with phase := .ready } } }
  (∀ s : State, s.inRun = true → s.cmp.comp.phase = .begun →
    let n := s.cmp.comp.num
    let v := adoptionPoint n s
    (v.cmp.comp.phase = .advancing ∧ v.cmp.comp.passes = s.cmp.comp.passes ∧
      v.cmp.comp.queries = (allFin 16).filter fun z => v.isMain z && (v.zones[z]).current.kind == .clip) ∧
    (v.cmp.comp.queries ≠ [] → exec .adoptionPoint s = .next v) ∧
    (v.cmp.comp.queries = [] → exec .adoptionPoint s = .next (ended n v))) ∧
  (∀ (s : State) (z : ZoneId) (rest : List ZoneId), s.inRun = true → s.cmp.comp.phase = .advancing →
    s.cmp.comp.queries = z :: rest →
    ((∃ y ∈ rest, y ≠ z) → exec (.clipFrameQuery z) s = .next (queryZone s z)) ∧
    ((∀ y ∈ rest, y = z) → exec (.clipFrameQuery z) s = .next (ended s.cmp.comp.num (queryZone s z)))) ∧
  ∀ (s : State) (z : ZoneId) (cue level : Nat), (s.zones[z]).current = .clip cue level →
    let a := (cueQuery s.cmp.comp.num z cue s).2
    (queryZone s z).cmp.comp.passes = s.cmp.comp.passes ++ match a.attribution with
      | some c => if a.entered then [(c, (s.exu.contracts[c]).category)] else []
      | none => []

/-- The adoption point: pending content and gaps, the strings read there (log entry 5), and the end of the
advance: the passes and the copies the mirror followers take (R37, R39, R40, R49, R58 to R60, R98; log entries
2 and 66). -/
def Obligations.AdoptionPointAdoptsPendingContent : Prop :=
  AdoptionAdoptsPendingContent ∧ DisplayStringsAreRead ∧ FollowersCopyTheirLeaders ∧ AdvanceEndsWithPassesAndCopies

/-- R58, R59, R113 to R115: the query of a MAIN zone whose content names the active cue of its lane. PLAYING
with its frame in a slot: the frame is copied into the zone's clip hold record, the slot takes the read mark
and a taken report is under way; a cue that holds its attribution is listed, the composition as its last
listed number. FROZEN below the freeze limit: the freeze count rises, the cue is listed likewise, and the
hold stays. FROZEN at the limit (the row FREEZE_LIMIT_ABORT, which is this query: log entry 2): the cue leaves the
queue. -/
def Sys2Proof.Machine.ClipQueryOfAnActiveCue : Prop :=
  ∀ (s : State) (z : ZoneId) (rest : List ZoneId) (q : Cue) (level : Nat), s.inRun = true →
    s.cmp.comp.phase = .advancing → s.cmp.comp.queries = z :: rest → s.answer z = none →
    (s.zones[z]).current = .clip q.id level → s.cue q.id = some q → s.cqs.lanes[z] = some q.id → q.zone = z →
    let listed := fun (x : Cue) => if x.attribution.isSome then
      { x with lastListed := some s.cmp.comp.num, listed := if x.listed < 4294967295 then x.listed + 1 else x.listed }
      else x
    (∀ i sl, q.state = .playing → s.slotWith q.id (q.first + q.position) = some i → s.slot i = some sl →
      Leaves (.clipFrameQuery z) s fun t =>
        t.cmp.holds[z] = some { clip := sl.clip, frame := sl.frame, width := sl.width, height := sl.height,
                                load := sl.load, data := sl.data } ∧
        t.slot i = some { sl with readMark := true } ∧ t.cmp.taken = s.cmp.taken ++ [⟨z, i, q.id⟩] ∧
        t.cue q.id = some (listed q) ∧ Elsewhere s t) ∧
    (q.state = .frozen → q.freeze + 1 < s.cfl.image.linkTable.freezeLimit → Leaves (.clipFrameQuery z) s fun t =>
      t.cue q.id = some (listed { q with freeze := q.freeze + 1 }) ∧
      t.cmp.holds = s.cmp.holds ∧ t.cqs.slots = s.cqs.slots ∧ Elsewhere s t) ∧
    (q.state = .frozen → s.cfl.image.linkTable.freezeLimit ≤ q.freeze + 1 →
      exec (.freezeLimitAbort z) s = exec (.clipFrameQuery z) s ∧
      Leaves (.freezeLimitAbort z) s fun t => t.cue q.id = none ∧ t.cmp.holds = s.cmp.holds)

/-- R113, R114: the query of the active cue in PREROLL. Below its preroll it stays as it is, and the zone's
hold too. Ready, it goes to PLAYING with freeze count 0 and the composition as its first listed number, and
CUE_STATE tells it; where its attribution conflicts with the active cue of the other lane it gives the
attribution and its contract reference up, with the dropped flag. (The other references stand where no cut
of R59 follows in the same step.) With its first frame in a slot that frame is shown, and a cue that holds
its attribution is listed. With that frame in no slot it freezes at once, listed likewise, with a second
notice, or ends where the freeze limit is 1; the zone's hold stays. -/
def Sys2Proof.Machine.PrerollEntersPlaying : Prop :=
  ∀ (s : State) (z : ZoneId) (rest : List ZoneId) (q : Cue) (level : Nat), s.inRun = true →
    s.cmp.comp.phase = .advancing → s.cmp.comp.queries = z :: rest → s.answer z = none →
    (s.zones[z]).current = .clip q.id level → s.cue q.id = some q → s.cqs.lanes[z] = some q.id → q.zone = z →
    q.state = .preroll →
    let ready := min q.count s.cfl.image.linkTable.preroll ≤ s.heldCount q.id
    let drops := q.attribution.any fun c => laneConflict s z c
    let held := if drops then none else q.attribution
    let entered := { q with
      state := .playing, freeze := 0, firstListed := some s.cmp.comp.num, attribution := held,
      dropped := q.dropped || drops }
    let listed := { entered with
      lastListed := if held.isSome then some s.cmp.comp.num else q.lastListed,
      listed := if held.isSome then (if q.listed < 4294967295 then q.listed + 1 else q.listed) else q.listed }
    let told := notify (cueStateOf entered none (s.heldCount q.id) s.osu.seq) s
    let uncut := (∃ y ∈ rest, y ≠ z) ∨ held = none ∧ s.cmp.comp.passes = []
    let references := fun (t : State) =>
      (∀ c, drops = true → q.attribution = some c → (∃ y ∈ rest, y ≠ z) ∨ s.cmp.comp.passes = [] →
        t.exu = { s.exu with contracts := upd s.exu.contracts c fun k => { k with refs := k.refs - 1 } }) ∧
      (drops = false → uncut → t.exu = s.exu)
    (¬ready → Leaves (.clipFrameQuery z) s fun t => t.cqs = s.cqs ∧ t.cmp.holds = s.cmp.holds ∧ Elsewhere s t) ∧
    (∀ i sl, ready → s.slotWith q.id (q.first + q.position) = some i → s.slot i = some sl →
      Leaves (.clipFrameQuery z) s fun t =>
        t.cue q.id = some listed ∧
        t.cmp.holds[z] = some { clip := sl.clip, frame := sl.frame, width := sl.width, height := sl.height,
                                load := sl.load, data := sl.data } ∧
        t.slot i = some { sl with readMark := true } ∧ Elsewhere s t ∧ references t ∧ t.links = told.links) ∧
    (ready → s.slotWith q.id (q.first + q.position) = none →
      (1 < s.cfl.image.linkTable.freezeLimit → Leaves (.clipFrameQuery z) s fun t =>
        t.cue q.id = some { listed with state := .frozen, freeze := 1 } ∧ t.cmp.holds = s.cmp.holds ∧
        t.cqs.slots = s.cqs.slots ∧ Elsewhere s t ∧ references t ∧ t.links =
          (notify (cueStateOf { entered with state := .frozen } none (s.heldCount q.id) s.osu.seq) told).links) ∧
      (s.cfl.image.linkTable.freezeLimit ≤ 1 → Leaves (.clipFrameQuery z) s fun t =>
        t.cue q.id = none ∧ t.cmp.holds = s.cmp.holds))

/-- R113: whether two cues' attributions conflict: the active cue of another lane, PLAYING, FROZEN or
SUSPENDED, holds a different contract of the same category, and that is not 0. -/
def Sys2Proof.Machine.LaneConflictTest : Prop :=
  ∀ (s : State) (z : ZoneId) (c : ContractId), laneConflict s z c = true ↔
    (s.exu.contracts[c]).category ≠ 0 ∧ ∃ (y : ZoneId) (o : Cue) (k : ContractId), y ≠ z ∧ s.activeCue y = some o ∧
      (o.state = .playing ∨ o.state = .frozen ∨ o.state = .suspended) ∧ o.attribution = some k ∧ k ≠ c ∧
      (s.exu.contracts[k]).category = (s.exu.contracts[c]).category

/-- R115, R113: the query of a PLAYING active cue whose frame is in no slot makes it FROZEN with freeze
count 1, with its CUE_STATE notice, listed when it holds its attribution, or ends it where the freeze limit
is 1; the zone's hold stays. A SUSPENDED cue and a cue that is not the active one of the lane are answered
HOLD without a change. -/
def Sys2Proof.Machine.PlayingWithoutItsFrameFreezes : Prop :=
  ∀ (s : State) (z : ZoneId) (rest : List ZoneId) (q : Cue) (level : Nat), s.inRun = true →
    s.cmp.comp.phase = .advancing → s.cmp.comp.queries = z :: rest → s.answer z = none →
    (s.zones[z]).current = .clip q.id level → s.cue q.id = some q → q.zone = z →
    (s.cqs.lanes[z] = some q.id → q.state = .playing → s.slotWith q.id (q.first + q.position) = none →
      (1 < s.cfl.image.linkTable.freezeLimit → Leaves (.clipFrameQuery z) s fun t =>
        t.cue q.id = some { q with
          state := .frozen, freeze := 1,
          lastListed := if q.attribution.isSome then some s.cmp.comp.num else q.lastListed,
          listed := if q.attribution.isSome then (if q.listed < 4294967295 then q.listed + 1 else q.listed)
            else q.listed } ∧
        t.cmp.holds = s.cmp.holds ∧ t.cqs.slots = s.cqs.slots ∧ Elsewhere s t ∧ t.links =
          (notify (cueStateOf { q with state := .frozen } none (s.heldCount q.id) s.osu.seq) s).links) ∧
      (s.cfl.image.linkTable.freezeLimit ≤ 1 → Leaves (.clipFrameQuery z) s fun t =>
        t.cue q.id = none ∧ t.cmp.holds = s.cmp.holds)) ∧
    (s.cqs.lanes[z] = some q.id → q.state = .suspended → Leaves (.clipFrameQuery z) s fun t =>
      t.cqs = s.cqs ∧ t.cmp.holds = s.cmp.holds) ∧
    (s.cqs.lanes[z] ≠ some q.id → Leaves (.clipFrameQuery z) s fun t => t.cqs = s.cqs ∧ t.cmp.holds = s.cmp.holds)

/-- What a clip query shows and does: the active cue PLAYING, FROZEN, at the freeze limit, in PREROLL and
SUSPENDED, and a cue that is not active (R58, R59, R113 to R115; log entry 2). -/
def Obligations.ClipQueryShowsHoldsOrAborts : Prop :=
  ClipQueryOfAnActiveCue ∧ PrerollEntersPlaying ∧ LaneConflictTest ∧ PlayingWithoutItsFrameFreezes

/-- R114: the taken report of a PLAYING active cue clears the read mark, with a free it held back the slot is
FREE, and counts the showing: below the rate divisor the repeat count rises; at it (the row
FRAME_REPEAT_END) the position moves on and a cue that does not loop frees the slot, a looping one starts
over; past the last frame (the row CUE_DONE) the cue leaves the queue. Both rows are the taken report (log
entry 2). -/
def Sys2Proof.Machine.TakenReportOfThePlayingCue : Prop :=
  ∀ (s : State) (z : ZoneId) (tr : TakenReport) (q : Cue) (sl : Slot), s.taken z = some tr → s.cqs.lanes[z] = some q.id →
    tr.zone = z → tr.cue = q.id → s.cue q.id = some q → q.state = .playing → q.zone = z →
    s.slot tr.slot = some sl → slotsOk s.cqs.slots = true →
    let cleared := if sl.freeHeld then none else some { sl with readMark := false }
    (q.repeats + 1 < q.rate → Leaves (.clipTakenReport z) s fun t =>
      t.cue q.id = some { q with repeats := q.repeats + 1 } ∧ t.slot tr.slot = cleared ∧
      Elsewhere s t ∧ t.zones = s.zones) ∧
    (q.rate ≤ q.repeats + 1 → exec (.frameRepeatEnd z) s = exec (.clipTakenReport z) s ∧
      (q.position + 1 < q.count → Leaves (.frameRepeatEnd z) s fun t =>
        t.cue q.id = some { q with repeats := 0, position := q.position + 1 } ∧
        t.slot tr.slot = (if q.loop then cleared else none) ∧ t.zones = s.zones) ∧
      (q.count ≤ q.position + 1 → q.loop = true → Leaves (.frameRepeatEnd z) s fun t =>
        t.cue q.id = some { q with repeats := 0, position := 0 } ∧ t.slot tr.slot = cleared ∧ t.zones = s.zones) ∧
      (q.count ≤ q.position + 1 → q.loop = false → exec (.cueDone z) s = exec (.clipTakenReport z) s ∧
        Leaves (.cueDone z) s fun t => t.cue q.id = none ∧ t.slot tr.slot = none))

/-- R114, R106: the taken report of a cue that has left PLAYING, or is no longer the zone's active cue, clears
the slot's read mark and carries out a free it held back, by which the slot is FREE and, while the stream is
UP, a credit goes back to the server. It does nothing else: no cue, lane or zone changes, no notice is
given. -/
def Sys2Proof.Machine.TakenReportOfACueThatLeft : Prop :=
  ∀ (s : State) (z : ZoneId) (tr : TakenReport), s.taken z = some tr → slotsOk s.cqs.slots = true →
    (∀ q, s.cqs.lanes[z] = some q.id → s.cue q.id = some q → q.id = tr.cue → q.state ≠ .playing) →
    let freed := ∃ sl, s.slot tr.slot = some sl ∧ sl.freeHeld = true
    Leaves (.clipTakenReport z) s fun t =>
      t.slot tr.slot = (match s.slot tr.slot with
        | none => none
        | some sl => if sl.freeHeld then none else some { sl with readMark := false }) ∧
      (∀ i, i ≠ tr.slot → t.slot i = s.slot i) ∧
      (freed → s.cqs.streamUp = true → t.cqs.credits = s.cqs.credits + 1 ∧ t.cqs.lane = s.cqs.lane ++ [.grant]) ∧
      (¬freed ∨ s.cqs.streamUp = false → t.cqs.credits = s.cqs.credits ∧ t.cqs.lane = s.cqs.lane) ∧
      t = { s with
        cmp := { s.cmp with taken := s.cmp.taken.filter (· ≠ tr) }
        cqs := { s.cqs with slots := t.cqs.slots, credits := t.cqs.credits, lane := t.cqs.lane } }

/-- The taken report of a cue still PLAYING and of one that has left PLAYING (R114; log entry 2). -/
def Obligations.TakenReportAdvancesTheCue : Prop :=
  TakenReportOfThePlayingCue ∧ TakenReportOfACueThatLeft

/-- R180, with R179's sums: when LVA allocates a plan, the scale of a feed that is not TRIPPED is 256 when
it has no FREE draw or the whole draw fits its capacity, 0 when HELD content alone fills it, and otherwise
the headroom's share, below 256; a feed with effective budget 0 darkens any FREE content on it. -/
def Obligations.PlanAllocationScalesEachFeed : Prop :=
  ∀ (s : State) (i : FeedId), s.inRun = true → s.cmp.comp.phase = .ready → s.cmp.comp.queries = [] →
    s.cmp.taken = [] → (s.fmn.feeds[i]).tripped = false →
    let plan := framePlan s
    let draw := fun (held : Bool) => ((plan.filter fun e => e.held == held).map fun e =>
      e.visible[i] * e.load * e.level).sum
    let e := (s.fmn.feeds[i]).budget * (s.fmn.feeds[i]).derate / 256
    Leaves .planAllocation s fun t =>
      t.cmp.comp.phase = .planned ∧ t.fmn.lva.num = s.cmp.comp.num ∧
      (t.fmn.lva.feeds[i]).budget = e ∧ (t.fmn.lva.feeds[i]).held = draw true ∧
      (t.fmn.lva.feeds[i]).free = draw false ∧
      (draw false = 0 ∨ draw true + draw false ≤ e * 65025 → (t.fmn.lva.feeds[i]).scale = 256) ∧
      (¬(draw false = 0 ∨ draw true + draw false ≤ e * 65025) →
        (e * 65025 ≤ draw true → (t.fmn.lva.feeds[i]).scale = 0) ∧
        (draw true < e * 65025 →
          (t.fmn.lva.feeds[i]).scale = (e * 65025 - draw true) * 256 / draw false ∧
          (t.fmn.lva.feeds[i]).scale ≤ 255)) ∧
      (e = 0 → 0 < draw false → (t.fmn.lva.feeds[i]).scale = 0) ∧ t.zones = s.zones ∧ t.csu = s.csu

/-- R181's law: for every feed not TRIPPED, the draw of the FREE entries at their applied levels does not
exceed the headroom the HELD entries leave; and HELD entries keep their requested level, no entry exceeds
its own. -/
def Obligations.FreeDrawStaysWithinHeadroom : Prop :=
  ∀ (n : Seq) (plan : List PlanEntry) (s : State) (i : FeedId), (s.fmn.feeds[i]).tripped = false →
    let r := allocate n plan s
    let f := (r.1).fmn.lva.feeds[i]
    ((r.2.filter fun e => !e.held).map fun e => e.visible[i] * e.load * e.applied).sum ≤ f.budget * 65025 - f.held ∧
      ∀ e ∈ r.2, e.applied ≤ e.level ∧ (e.held = true → e.applied = e.level)

/-- R53, R64 to R66: a planned composition ends with the built frame and its record, the dark flag clear,
with one entry for each zone with attributed content, and with the last plan report. -/
def Sys2Proof.Machine.CompositionEndsWithItsRecord : Prop :=
  ∀ (o : ReportOrder) (s : State), s.inRun = true → s.cmp.comp.phase = .planned → s.cmp.comp.queries = [] →
    s.cmp.taken = [] →
    Leaves (.compositionEnd o) s fun t =>
      t.cmp.comp.phase = .idle ∧
      t.osu.built = some { picture := s.cmp.comp.picture, record :=
        { num := s.cmp.comp.num, dark := false, entries := (allFin 16).filterMap (frameEntry s) } } ∧
      t.cmp.lastPlan.num = s.cmp.comp.num ∧ t.cmp.lastPlan.entries = s.cmp.comp.plan ∧
      (∀ i : FeedId, t.cmp.lastPlan.budgets[i] = (s.fmn.lva.feeds[i]).budget ∧
        t.cmp.lastPlan.scales[i] = (s.fmn.lva.feeds[i]).scale) ∧
      t.osu.seq = s.osu.seq ∧ t.osu.scanning = s.osu.scanning ∧ t.csu = s.csu ∧ t.fmn = s.fmn ∧
      ∀ (z : ZoneId) (a lv : Nat) (ref : AiringRef) (fb : Bool) (e : PlanEntry),
        (s.zones[z]).current = .asset a lv (some ref) fb → s.cmp.comp.plan.find? (·.zone == z) = some e →
        frameEntry s z = some
          { zone := z, key := .airing ref.id, contract := ref.contract,
            area := (s.zoneCfg z).width * (s.zoneCfg z).height, visible := e.seen, level := e.applied }

/-- R58, R64: a zone's entry of the frame record. ASSET content with an airing gives one by the airing; CLIP
content gives one where the answer to the zone's query reported its cue PLAYING or FROZEN with an
attribution; any other content gives none. It carries the zone's area, its visible tiles over the four feeds
and its applied level, both 0 where the zone is not in the plan. -/
def Sys2Proof.Machine.FrameEntriesFollowTheContent : Prop :=
  ∀ (s : State) (z : ZoneId),
    let here := (s.zones[z]).current
    let planned := s.cmp.comp.plan.find? (·.zone == z)
    let entry := fun (key : RecordKey) (c : ContractId) => some (
      { zone := z, key := key, contract := c, area := (s.zoneCfg z).width * (s.zoneCfg z).height,
        visible := (planned.map fun e =>
          e.visible[(0 : Fin 4)] + e.visible[(1 : Fin 4)] + e.visible[(2 : Fin 4)] + e.visible[(3 : Fin 4)]).getD 0,
        level := (planned.map (·.applied)).getD 0 } : FrameEntry)
    (∀ a lv ref fb, here = .asset a lv (some ref) fb → frameEntry s z = entry (.airing ref.id) ref.contract) ∧
    (∀ q lv, here = .clip q lv →
      (s.answer z = none → frameEntry s z = none) ∧
      ∀ a, s.answer z = some a →
        let shows := a.state = some .playing ∨ a.state = some .frozen
        (∀ c, shows → a.attribution = some c → frameEntry s z = entry (.cue q c) c) ∧
        (¬shows ∨ a.attribution = none → frameEntry s z = none)) ∧
    (here.airing = none → (∀ q lv, here ≠ .clip q lv) → frameEntry s z = none)

/-- R58, R113 to R115: the answer to a zone's query of a cue, as it stands in the composition: for the
active cue PLAYING with its frame in a slot that slot, PLAYING and its attribution; without it FROZEN and
the attribution, or ABORTED and none at the freeze limit; FROZEN likewise; in PREROLL below its preroll, and
SUSPENDED, the state and attribution it has; a ready one the attribution it holds on entering PLAYING, with
the entered mark. A cue that is not active reports its state and no attribution. -/
def Sys2Proof.Machine.QueriesAreAnswered : Prop :=
  ∀ (s : State) (z : ZoneId) (q : Cue) (level : Nat), (s.zones[z]).current = .clip q.id level → s.cue q.id = some q →
    q.zone = z → s.answer z = none →
    let limit := s.cfl.image.linkTable.freezeLimit
    let answered := fun a : ClipAnswer => (queryZone s z).answer z = some a
    let active := s.cqs.lanes[z] = some q.id
    let place := s.slotWith q.id (q.first + q.position)
    let shown := fun (att : Option ContractId) (entered : Bool) =>
      (∀ i, place = some i → answered ⟨some i, some .playing, att, entered⟩) ∧
      (place = none → 1 < limit → answered ⟨none, some .frozen, att, entered⟩) ∧
      (place = none → limit ≤ 1 → answered ⟨none, some .aborted, none, entered⟩)
    let ready := min q.count s.cfl.image.linkTable.preroll ≤ s.heldCount q.id
    let keeps := fun c : ContractId => laneConflict s z c = false
    (¬active → answered ⟨none, some q.state, none, false⟩) ∧
    (active → q.state = .playing → shown q.attribution false) ∧
    (active → q.state = .frozen → (q.freeze + 1 < limit → answered ⟨none, some .frozen, q.attribution, false⟩) ∧
      (limit ≤ q.freeze + 1 → answered ⟨none, some .aborted, none, false⟩)) ∧
    (active → q.state = .suspended → answered ⟨none, some .suspended, q.attribution, false⟩) ∧
    (active → q.state = .preroll → (¬ready → answered ⟨none, some .preroll, q.attribution, false⟩) ∧
      (ready → (∀ c, q.attribution = some c → keeps c → shown (some c) true) ∧
        ((∀ c, q.attribution = some c → ¬keeps c) → shown none true)))

/-- R36: a zone is present when it has content, and for CLOCK and SCORE when it is shown; a tile belongs to
the present zone covering it with the highest layer, of several such the one of lowest number; a tile that
none covers to none. -/
def Sys2Proof.Machine.TilesBelongToTheTopmostZone : Prop :=
  ∀ (s : State) (col row : Nat),
    let layer := fun z : ZoneId => layerOf s.cfl.image.classMap (s.zoneCfg z).cls
    let here := fun z : ZoneId => ((s.zoneCfg z).cls = .clock ∨ (s.zoneCfg z).cls = .score → (s.zones[z]).shown = true) ∧
      (s.zones[z]).current ≠ .none ∧ (s.zoneCfg z).col ≤ col ∧ col < (s.zoneCfg z).col + (s.zoneCfg z).width ∧
      (s.zoneCfg z).row ≤ row ∧ row < (s.zoneCfg z).row + (s.zoneCfg z).height
    (tileOwner s col row = none ↔ ∀ z, ¬here z) ∧
    ∀ z, tileOwner s col row = some z ↔ here z ∧ ∀ y, here y → layer y < layer z ∨ layer y = layer z ∧ z ≤ y

/-- R54, R56, R61, R62, R181: the frame start takes the snapshot. The plan has one entry for each present
zone, by rising number: its area, its visible tiles on each feed (owned, chain OK and feed not TRIPPED in
the snapshot), and the level, load figure and dim class of its content's kind. PLAN_ALLOCATION allocates it
(log entry 5): a HELD entry keeps its level, a FREE one takes the least of its level and floor(level × scale
/ 256) over the feeds not TRIPPED on which it has visible tiles. -/
def Sys2Proof.Machine.PlanEntriesFollowTheContent : Prop :=
  (∀ s : State, s.inRun = true → openScan s = none → s.cmp.comp.phase = .idle → Leaves .frameStart s fun t =>
    (∀ c : ChainId, t.cmp.comp.chainOk[c] = decide ((s.osu.chains[c]).state = .ok)) ∧
    ∀ i : FeedId, t.cmp.comp.tripped[i] = (s.fmn.feeds[i]).tripped) ∧
  (∀ (s : State) (t : TileRec), tileVisible s.cmp.comp t = true ↔
    (∃ c : ChainId, c.val = t.chain ∧ s.cmp.comp.chainOk[c] = true) ∧
    ∃ i : FeedId, i.val = t.feed ∧ s.cmp.comp.tripped[i] = false) ∧
  (∀ s : State,
    let present := fun z : ZoneId => ((s.zoneCfg z).cls = .clock ∨ (s.zoneCfg z).cls = .score → (s.zones[z]).shown = true) ∧
      (s.zones[z]).current ≠ .none
    (∀ z, present z ↔ ∃ e ∈ framePlan s, e.zone = z) ∧ ((framePlan s).map (·.zone)).Pairwise (· < ·) ∧
    ∀ e ∈ framePlan s,
      let g := s.zoneCfg e.zone
      let figure := fun a : Nat => (∀ h d l, (s.asset a).body = .ready h d l → e.load = l)
      e.area = g.width * g.height ∧
      (∀ i : FeedId, e.visible[i] = (s.cfl.image.geometry.tiles.filter fun t =>
        t.feed == i.val && tileVisible s.cmp.comp t && tileOwner s t.col t.row == some e.zone).length) ∧
      match (s.zones[e.zone]).current with
      | .none => False
      | .asset a lv _ fallback => e.level = (if fallback then 255 else lv) ∧ figure a ∧ e.held = false
      | .message a _ _ lv => e.level = lv ∧ figure a ∧ e.held = false
      | .alert a _ _ lv => e.level = lv ∧ figure a ∧ e.held = true
      | .evac a => e.level = 255 ∧ figure a ∧ e.held = true
      | .clip _ lv => e.level = lv ∧ e.load = ((s.cmp.holds[e.zone]).map (·.load)).getD 0 ∧ e.held = false
      | .clock | .score => e.level = g.level ∧ e.load = g.load ∧ e.held = true
      | .blank _ | .gap => e.level = 0 ∧ e.load = 0 ∧ e.held = false) ∧
  (∀ s : State, s.inRun = true → s.cmp.comp.phase = .ready → s.cmp.comp.queries = [] → s.cmp.taken = [] →
    Leaves .planAllocation s fun t => t.cmp.comp.plan = (allocate s.cmp.comp.num (framePlan s) s).2) ∧
  ∀ (n : Seq) (plan : List PlanEntry) (s : State),
    let r := allocate n plan s
    let on := fun (e : PlanEntry) (i : FeedId) => (s.fmn.feeds[i]).tripped = false ∧ e.visible[i] ≠ 0
    let scaled := fun (e : PlanEntry) (i : FeedId) => e.level * (r.1.fmn.lva.feeds[i]).scale / 256
    r.2.map (fun e => { e with applied := 0 }) = plan.map (fun e => { e with applied := 0 }) ∧
    ∀ e ∈ r.2, (e.held = true → e.applied = e.level) ∧
      (e.held = false → e.applied ≤ e.level ∧ (∀ i, on e i → e.applied ≤ scaled e i) ∧
        (e.applied = e.level ∨ ∃ i, on e i ∧ e.applied = scaled e i))

/-- R57, R60, R63, R79: a zone's source tile at an offset. Content with a READY asset: that tile of frame
floor((n − start frame) / interval) mod count, black outside the picture. CLIP: that tile of the frame held,
black outside it and with none held. CLOCK and SCORE: of the string read for the zone, each glyph as wide as
asset 1, the last one ending at the right edge; black elsewhere. -/
def Sys2Proof.Machine.SourceTilesFollowTheContent : Prop :=
  ∀ (s : State) (z : ZoneId) (dx dy : Nat),
    let r := s.zones[z]
    let n := s.cmp.comp.num
    let black := List.replicate 3072 (0 : Byte)
    let tile := sourceTile s z dx dy
    let cut := fun (w h frame x : Nat) (data : List Byte) => (data.drop (((frame * h + dy) * w + x) * 3072)).take 3072
    let shows := fun a : Nat => r.current = .evac a ∨ (∃ lv ref fb, r.current = .asset a lv ref fb) ∨
      (∃ m l lv, r.current = .message a m l lv) ∨ ∃ m l lv, r.current = .alert a m l lv
    (∀ a, shows a →
      ((s.asset a).body.isReady = false → tile = black) ∧
      ∀ h data l, (s.asset a).body = .ready h data l → 1 ≤ h.frames →
        (dx < h.width → dy < h.height →
          tile = cut h.width h.height ((n - r.start).toNat / h.interval % h.frames) dx data) ∧
        (h.width ≤ dx ∨ h.height ≤ dy → tile = black)) ∧
    (∀ q lv, r.current = .clip q lv →
      (s.cmp.holds[z] = none → tile = black) ∧
      ∀ h, s.cmp.holds[z] = some h → (dx < h.width → dy < h.height → tile = cut h.width h.height 0 dx h.data) ∧
        (h.width ≤ dx ∨ h.height ≤ dy → tile = black)) ∧
    (∀ text, r.current = .clock ∨ r.current = .score → s.cmp.comp.strings.find? (·.1 == z) = some (z, text) →
      dx < (s.zoneCfg z).width →
      ((s.asset 1).body.isReady = false → tile = black) ∧
      ∀ h data l, (s.asset 1).body = .ready h data l → 1 ≤ h.width →
        (dx + text.length * h.width < (s.zoneCfg z).width → tile = black) ∧
        ∀ k g x, text[k]? = some g → x < h.width → dx + (text.length - k) * h.width = (s.zoneCfg z).width + x →
          let frame := match g with
            | .digit d => d
            | .colon => 10
            | .stop => 11
            | .space => 12
          (frame < h.frames → dy < h.height → tile = cut h.width h.height frame x data) ∧
          (h.frames ≤ frame ∨ h.height ≤ dy → tile = black)) ∧
    (r.current = .gap ∨ r.current = .none ∨ (∃ fb, r.current = .blank fb) → tile = black)

/-- R63: when the tiles are written every tile of the grid is written: black where no zone owns it, where
its chain was not OK or its feed TRIPPED at the snapshot, and where its owner shows GAP or BLANK; otherwise
each sub-pixel of the owner's source tile at that offset, times the applied level, over 255. (That
PLAN_ALLOCATION writes them, R53 writing them in step 7, is the model's: log entry 5.) -/
def Sys2Proof.Machine.TilesAreWrittenAtTheAppliedLevel : Prop :=
  (∀ s : State, s.inRun = true → s.cmp.comp.phase = .ready → s.cmp.comp.queries = [] → s.cmp.taken = [] →
    Leaves .planAllocation s fun t =>
      let w := s.cfl.image.geometry.width
      t.cmp.comp.picture.length = w * s.cfl.image.geometry.height ∧
      ∀ (k : Nat) (tr : TileRec), k < w * s.cfl.image.geometry.height →
        s.cfl.image.geometry.tiles.find? (fun t => t.row * w + t.col == k && t.col < w) = some tr →
        t.cmp.comp.picture[k]? = some (writtenTile s t.cmp.comp.plan tr)) ∧
  ∀ (s : State) (plan : List PlanEntry) (tr : TileRec),
    (tileOwner s tr.col tr.row = none → writtenTile s plan tr = List.replicate 3072 0) ∧
    ∀ z, tileOwner s tr.col tr.row = some z →
      (tileVisible s.cmp.comp tr = false → writtenTile s plan tr = List.replicate 3072 0) ∧
      (tileVisible s.cmp.comp tr = true →
        ((s.zones[z]).current = .gap ∨ (∃ fb, (s.zones[z]).current = .blank fb) →
          writtenTile s plan tr = List.replicate 3072 0) ∧
        ∀ e, plan.find? (·.zone == z) = some e → writtenTile s plan tr =
          (sourceTile s z (tr.col - (s.zoneCfg z).col) (tr.row - (s.zoneCfg z).row)).map fun p =>
            BitVec.ofNat 8 (p.toNat * e.applied / 255))

/-- A composition's end (R53, R64 to R66), the entries of its record and the answers they rest on (R58,
R64), its plan (R54, R56, R61, R62, R181), and the picture it carries: the owner of each tile, its source
tile and what is written there (R36, R57, R60, R63, R79; log entry 5). -/
def Obligations.CompositionEndBuildsTheFrame : Prop :=
  CompositionEndsWithItsRecord ∧ FrameEntriesFollowTheContent ∧ QueriesAreAnswered ∧ PlanEntriesFollowTheContent ∧ TilesBelongToTheTopmostZone ∧
    SourceTilesFollowTheContent ∧ TilesAreWrittenAtTheAppliedLevel

/-- R150 (the row AIRING_COMPLETE, which is the composition's end: log entry 2): an airing on the wall whose
composed frames reach its duration with this report leaves the zone, for the next pick or none. -/
def Sys2Proof.Machine.AiringCompletesAtItsDuration : Prop :=
  ∀ (o : ReportOrder) (s : State) (z : ZoneId) (a : Airing), s.inRun = true → s.cmp.comp.phase = .planned →
    s.cmp.comp.queries = [] → s.cmp.taken = [] → s.airing z = some a →
    (s.zones[z]).current.airing.map (·.id) = some a.id → a.phase ≠ .ending → a.frames + 1 = a.duration →
    exec (.airingComplete z o) s = exec (.compositionEnd o) s ∧
    Leaves (.airingComplete z o) s fun t =>
      (∀ b, t.airing z = some b → b.phase = .pending) ∧ t.cmp.comp.phase = .idle

/-- R127 to R129 (the row MESSAGE_SHOWING_END, which is the composition's end: log entry 2): a showing ends
when its frames have run. A message on its last repeat leaves the part; one with repeats left is placed
again and, if it is the first eligible, taken on for its full duration. -/
def Sys2Proof.Machine.MessageShowingEndsAfterItsFrames : Prop :=
  ∀ (o : ReportOrder) (s : State) (d : Display), s.inRun = true → s.cmp.comp.phase = .planned →
    s.cmp.comp.queries = [] → s.cmp.taken = [] → s.mse.emergency = .none → s.mse.display = some d → d.framesLeft ≤ 1 →
    s.mse.queue = [] →
    exec (.messageShowingEnd o) s = exec (.compositionEnd o) s ∧
    (d.message.repeats ≤ 1 → Leaves (.messageShowingEnd o) s fun t => t.mse.display = none ∧ t.mse.queue = []) ∧
    (1 < d.message.repeats → d.message.expired = false → d.message.whenStopped = false →
      Leaves (.messageShowingEnd o) s fun t =>
        t.mse.display = some { message := { d.message with repeats := d.message.repeats - 1 },
                               framesLeft := d.message.duration } ∧ t.mse.queue = [])

/-- R150, R151: the rotation step of a report takes the zones with a rotation record by rising number. In
each it counts the airing and the ending airings: in a composition whose current content carries the airing,
frames composed rise by one and n is the last frame, at the first count the first frame too, and a PENDING
airing goes ON_AIR; in any other (a GAP, the fallback) nothing is counted. Then it settles the ending
airings, then the airing (this order is the model's choice: log entry 67), and then picks where a pick is
due. An airing that does not close so stays, counted. The composition's end runs the step on the built
frame's composition. -/
def Sys2Proof.Machine.RotationStepCountsThenPicks : Prop :=
  (∀ (n : Seq) (s : State) (ms : List Mark) (z : ZoneId),
    (s.rot.zones[z] = none → rotationStepZone n (s, ms) z = (s, ms)) ∧
    ∀ r, s.rot.zones[z] = some r →
      let count := countedIn n (s.zones[z]).current
      let record := { r with airing := r.airing.map count, ending := r.ending.map count }
      let counted := { s with rot := { s.rot with zones := upd s.rot.zones z fun _ => some record } }
      let t := settleAiring z (settleEnding z (counted, ms))
      rotationStepZone n (s, ms) z = (pickIfDue z t.1, t.2)) ∧
  (∀ (n : Seq) (s : State) (z : ZoneId) (r : RotZone) (a : Airing), s.rot.zones[z] = some r → r.airing = some a →
    let b := countedIn n (s.zones[z]).current a
    ¬(b.phase = .onAir ∧ b.frames = b.duration) → (rotationStep n s).airing z = some b) ∧
  ∀ s : State, s.inRun = true → s.cmp.comp.phase = .planned → s.cmp.comp.queries = [] → s.cmp.taken = [] →
    exec (.compositionEnd .rotFirst) s = .next (displayStep (rotationStep s.cmp.comp.num (buildFrame s)))

/-- R150: an airing ON_AIR at its duration hands EXU a closing mark with outcome COMPLETE, an ENDING one
that was composed a mark with outcome CUT; each gives its asset reference back. An ENDING one never composed
hands none and gives both references back. The ending airings of a record settle in the order in which they
were cut. The marks are taken when the step has handled every zone, so that
no pick of the step sees a make-good they give: until then the make-good queue only loses entries. -/
def Sys2Proof.Machine.ClosingAiringsHandTheirMarks : Prop :=
  (∀ (z : ZoneId) (o : Outcome) (a : Airing) (s : State) (ms : List Mark), closeAiring z o a (s, ms) =
    (giveAsset a.asset s, ms ++ [airingMark s z o a])) ∧
  (∀ (z : ZoneId) (s : State) (ms : List Mark) (r : RotZone) (a : Airing), s.rot.zones[z] = some r → r.airing = some a →
    let without := s.modRotZone z fun r => { r with airing := none }
    (a.phase = .onAir → a.frames = a.duration →
      settleAiring z (s, ms) = closeAiring z .complete a (without, ms)) ∧
    (a.phase ≠ .onAir ∨ a.frames ≠ a.duration → settleAiring z (s, ms) = (s, ms))) ∧
  (∀ (z : ZoneId) (s : State) (ms : List Mark) (r : RotZone), s.rot.zones[z] = some r →
    let without := s.modRotZone z fun r => { r with ending := [] }
    let given := fun (t : State) (a : Airing) =>
      if a.frames = 0 then giveContract a.contract (giveAsset a.asset t) else giveAsset a.asset t
    settleEnding z (s, ms) =
      (r.ending.foldl given without, ms ++ (r.ending.filter (0 < ·.frames)).map (airingMark s z .cut))) ∧
  ∀ (n : Seq) (s : State), let r := (allFin 16).foldl (rotationStepZone n) (s, [])
    rotationStep n s = r.2.foldl (fun s m => takeMark m s) r.1 ∧ r.1.rot.makegood.Sublist s.rot.makegood ∧
    r.1.exu.log = s.exu.log

/-- R162, R163: an airing's closing mark is stored in its open record, opened with delivered 0 if there is
none. While the credited-through number is none or earlier than the mark's last frame the record waits with
it and nothing else changes; otherwise the record closes at once. -/
def Sys2Proof.Machine.ClosingMarkWaitsOrCloses : Prop :=
  ∀ (m : Mark) (id : Seq) (s : State), m.key = .airing id →
    let r := (s.openRecord m.key).getD
      { key := m.key, contract := m.contract, delivered := 0, mark := none, holdsRef := false }
    let waits := ∀ c, s.exu.creditedThrough = some c → earlier c m.last = true
    let t := takeMark m s
    (waits → t = { s with exu := { s.exu with records := t.exu.records } } ∧
      t.openRecord m.key = some { r with mark := some m }) ∧
    (¬waits → t.openRecord m.key = none ∧
      t.exu.log = (if 256 ≤ s.exu.log.length then s.exu.log.tail else s.exu.log) ++
        [logEntryOf false (makegoodOf s r m).isSome r m])

/-- R162: the closing mark of a cue's attribution takes a contract reference for its open record, once for
the record (the model's choice: log entry 47). Where the record waits with it that is all that changes;
where it closes at once its log entry is appended, and the reference is given back with the closure, so that
only one the record held before is gone. -/
def Sys2Proof.Machine.CueMarkTakesItsReference : Prop :=
  ∀ (m : Mark) (id : Nat) (c : ContractId) (s : State), m.key = .cue id c →
    let r := (s.openRecord m.key).getD
      { key := m.key, contract := m.contract, delivered := 0, mark := none, holdsRef := false }
    let waits := ∀ c, s.exu.creditedThrough = some c → earlier c m.last = true
    let t := takeMark m s
    (waits → t = { s with exu := { s.exu with records := t.exu.records, contracts := t.exu.contracts } } ∧
      t.openRecord m.key = some { r with mark := some m, holdsRef := true } ∧
      t.exu.contracts = if r.holdsRef then s.exu.contracts else
        upd s.exu.contracts m.contract fun k => { k with refs := k.refs + 1 }) ∧
    (¬waits → t.openRecord m.key = none ∧
      t.exu.log = (if 256 ≤ s.exu.log.length then s.exu.log.tail else s.exu.log) ++ [logEntryOf false false r m] ∧
      t.exu.contracts = if r.holdsRef then
        upd s.exu.contracts m.contract fun k => { k with refs := k.refs - 1 } else s.exu.contracts)

/-- R164 to R166: the closure of an airing's record. A make-good is due when the contract's percent is above
0, the contract is OPEN and delivered falls short of that percent of area × duration; it repeats the airing
for the frames that cover the shortfall, 1 to the duration. The log entry goes behind the newest, the oldest
of 256 being pushed out and counted; it says whether a make-good was due. The airing's contract reference is
given back and the record leaves. The closure of a cue's record appends its entry without a make-good and
gives back the reference it holds. -/
def Sys2Proof.Machine.ClosureLogsAndDecidesTheMakegood : Prop :=
  ∀ (r : OpenRecord) (m : Mark) (s : State),
    let k := s.exu.contracts[m.contract]
    let nominal := m.area * m.duration
    let due := 0 < k.makegood ∧ k.state = .opened ∧ r.delivered * 100 < nominal * k.makegood
    let entry : QueueEntry :=
      { contract := m.contract, asset := m.asset,
        cls := if (s.zoneCfg m.zone).cls = .main then .main else .sponsor,
        duration := max 1 (min m.duration ((nominal - r.delivered + m.area - 1) / m.area)), level := m.level }
    let logged := fun (queued : Bool) (number : Nat) (t : State) =>
      t.exu.log = (if 256 ≤ s.exu.log.length then s.exu.log.tail else s.exu.log) ++
        [{ id := number, contract := m.contract, zone := m.zone, source := m.source, first := m.first, last := m.last,
           duration := m.duration, frames := m.frames, delivered := r.delivered, nominal := nominal,
           outcome := m.outcome, queued := queued, restart := false }] ∧
      t.exu.logLost = (if 256 ≤ s.exu.log.length then (if s.exu.logLost < 65535 then s.exu.logLost + 1
        else s.exu.logLost) else s.exu.logLost) ∧
      t.exu.records = s.exu.records.filter (·.key != r.key) ∧ t.zones = s.zones ∧ t.cqs = s.cqs ∧ Elsewhere s t
    let t := closeRecord false r m s
    (∀ id, m.key = .airing id →
      logged (decide due) id.toNat t ∧
      (¬due → t.rot = s.rot ∧ t.ast = s.ast ∧
        t.exu.contracts = upd s.exu.contracts m.contract fun k => { k with refs := k.refs - 1 }) ∧
      (due → t.rot = (makegoodArrival entry id s).rot ∧ t.ast = (makegoodArrival entry id s).ast ∧
        t.exu.contracts = upd (makegoodArrival entry id s).exu.contracts m.contract fun k =>
          { k with refs := k.refs - 1 })) ∧
    ∀ cue c, m.key = .cue cue c → logged false cue t ∧ t.rot = s.rot ∧ t.ast = s.ast ∧
      t.exu.contracts = if r.holdsRef then upd s.exu.contracts m.contract fun k => { k with refs := k.refs - 1 }
        else s.exu.contracts

/-- R146: a make-good entry that arrives is dropped with a MAKEGOOD_DROPPED notice when the queue holds 16
entries (cause FULL) or its asset is not READY (NO_ASSET); otherwise it goes behind the last entry and takes
both its references. -/
def Sys2Proof.Machine.MakegoodArrivesOrIsDropped : Prop :=
  ∀ (e : QueueEntry) (id : Seq) (s : State),
    let dropped := fun (cause : DropCause) => notify (.makegoodDropped e.contract id e.duration cause s.osu.seq) s
    let t := makegoodArrival e id s
    (16 ≤ s.rot.makegood.length → t = dropped .full) ∧
    (s.rot.makegood.length < 16 → (s.asset e.asset).body.isReady = false → t = dropped .noAsset) ∧
    (s.rot.makegood.length < 16 → (s.asset e.asset).body.isReady = true →
      t.rot = { s.rot with makegood := s.rot.makegood ++ [e] } ∧
      t.asset e.asset = { s.asset e.asset with refs := (s.asset e.asset).refs + 1 } ∧
      t.exu = { s.exu with contracts := upd s.exu.contracts e.contract fun k => { k with refs := k.refs + 1 } } ∧
      t.links = s.links ∧ t.zones = s.zones ∧ t.cqs = s.cqs ∧ Elsewhere s t)

/-- What a composition report ends: an airing at its duration, a showing at its frames (R150, R127 to R129;
log entry 2), by the rotation step (log entry 67); and what the Exposure Unit makes of the closing marks of
airings and cues (R146, R162 to R166; log entry 47). -/
def Obligations.ReportEndsAiringsAndShowings : Prop :=
  AiringCompletesAtItsDuration ∧ MessageShowingEndsAfterItsFrames ∧ RotationStepCountsThenPicks ∧
    ClosingAiringsHandTheirMarks ∧ ClosingMarkWaitsOrCloses ∧ CueMarkTakesItsReference ∧
    ClosureLogsAndDecidesTheMakegood ∧ MakegoodArrivesOrIsDropped

/-! ## The millisecond tick (sections 6, 8.5 and 12.5) -/

/-- R85, R93, R94: a tick counts every clock that counts by one millisecond and no other; one that reaches
its end is EXPIRED; an expiry with horn enable starts the horn for 2,000 ms, otherwise a sounding horn loses
1 ms; GAME's expiry raises the period counter, up to 999, and no other score counter changes. In POWER_UP
nothing is counted (log entry 7). The row CLOCK_EXPIRY is the tick at which a clock expires (log entry 2). -/
def Sys2Proof.Machine.MillisecondTickCountsTheClocks : Prop :=
  ∀ (i : TickInput) (s : State),
    (s.cfl.startup = .powerUp → exec (.msTick i) s = .next s) ∧
    (s.cfl.startup ≠ .powerUp →
      (Leaves (.msTick i) s fun t =>
        (∀ c : ClockId,
          (Counts s c → (t.csu.clocks[c]).value = valueAfter s.csu.clocks[c]) ∧
          (¬Counts s c → (t.csu.clocks[c]).value = (s.csu.clocks[c]).value) ∧
          (Expires s c → (t.csu.clocks[c]).state = .expired) ∧
          ((s.csu.clocks[c]).state ≠ .running → (t.csu.clocks[c]).state = (s.csu.clocks[c]).state) ∧
          (t.csu.clocks[c]).limit = (s.csu.clocks[c]).limit) ∧
        ((s.cfl.startup ≠ .safe ∧ ∃ c, Expires s c ∧ (s.csu.clocks[c]).horn = true) →
          t.csu.hornTime = 2000 ∧ t.csu.hornLine = true) ∧
        (¬(s.cfl.startup ≠ .safe ∧ ∃ c, Expires s c ∧ (s.csu.clocks[c]).horn = true) →
          t.csu.hornTime = s.csu.hornTime - 1 ∧ t.csu.hornLine = decide (1 < s.csu.hornTime)) ∧
        (∀ k : CounterId, (Expires s 0 ∧ s.csu.period = some k → t.csu.score[k] = min (s.csu.score[k] + 1) 999) ∧
          (¬(Expires s 0 ∧ s.csu.period = some k) → t.csu.score[k] = s.csu.score[k])) ∧
        t.osu = s.osu ∧ t.cqs = s.cqs ∧ t.fmn = s.fmn ∧ t.exu.log = s.exu.log) ∧
      ∀ c : ClockId, Expires s c → exec (.clockExpiry c i) s = exec (.msTick i) s ∧
        Leaves (.clockExpiry c i) s fun t => (t.csu.clocks[c]).state = .expired)

/-- R94 (the row HORN_END, which is this tick: log entry 2): the tick that takes the last millisecond of a
sounding horn makes it idle and deasserts the line, unless an expiry starts it anew. -/
def Sys2Proof.Machine.HornEndDeassertsTheLine : Prop :=
  ∀ (i : TickInput) (s : State), s.cfl.startup ≠ .powerUp → s.csu.hornTime = 1 →
    ¬(s.cfl.startup ≠ .safe ∧ ∃ c, Expires s c ∧ (s.csu.clocks[c]).horn = true) →
    exec (.hornEnd i) s = exec (.msTick i) s ∧
    Leaves (.hornEnd i) s fun t => t.csu.hornTime = 0 ∧ t.csu.hornLine = false

/-- R92: a tick that counts a DOWN clock to its warning value or below while its warn-armed flag is set
clears the flag; no other tick touches a flag. The WARN event so fired hands LC a CLOCK_EVENT with the
clock's value and the frame sequence counter, and ROT the trigger source. -/
def Sys2Proof.Machine.WarningFiresOncePerArming : Prop :=
  let warnsAt := fun (s : State) (c : ClockId) => Counts s c ∧ (s.csu.clocks[c]).dir = .down ∧
    (s.csu.clocks[c]).armed = true ∧ valueAfter s.csu.clocks[c] ≤ (s.csu.clocks[c]).warning
  (∀ (i : TickInput) (s : State), s.cfl.startup ≠ .powerUp → Leaves (.msTick i) s fun t => ∀ c : ClockId,
    (warnsAt s c → (t.csu.clocks[c]).armed = false) ∧
    (¬warnsAt s c → (t.csu.clocks[c]).armed = (s.csu.clocks[c]).armed)) ∧
  (∀ (s : State) (c : ClockId), (∀ x : ClockId, warnsAt s x ↔ x = c) → (∀ x : ClockId, ¬Expires s x) →
    let counted := Vector.ofFn fun x : Fin 3 =>
      if (s.csu.clocks[x]).counted s.gameRunning then
        { s.csu.clocks[x] with value := valueAfter s.csu.clocks[x] } else s.csu.clocks[x]
    countClocks s = warnEvent { s with csu := { s.csu with clocks := counted } } c) ∧
  ∀ (s : State) (c : ClockId), warnEvent s c = triggerEvent (.warn c)
    (notify (.clockEvent c .warn (s.csu.clocks[c]).value s.osu.seq)
      { s with csu := { s.csu with clocks := upd s.csu.clocks c fun k => { k with armed := false } } })

/-- R85, R86, R93: a tick counts the clocks, then takes the warnings, by rising clock number (the model's
choice: log entry 20), then the expiries of GAME, SHOT and AUX, then the raise of the period counter at
GAME's expiry, with its score event. An expiry starts the horn of a clock with horn enable, outside SAFE;
hands LC a CLOCK_EVENT with the clock's value and the frame sequence counter, and then ROT the trigger
source (their order is the model's: log entry 60); for GAME it stops the LINKED clocks still in RUNNING. -/
def Sys2Proof.Machine.ExpiryEventTellsAndStops : Prop :=
  (∀ (s : State) (c : ClockId), (expires s c = true ↔ Expires s c) ∧
    (warns s c = true ↔ Counts s c ∧ (s.csu.clocks[c]).dir = .down ∧ (s.csu.clocks[c]).armed = true ∧
      valueAfter s.csu.clocks[c] ≤ (s.csu.clocks[c]).warning)) ∧
  (∀ s : State,
    let counted := Vector.ofFn fun x : Fin 3 =>
      if (s.csu.clocks[x]).counted s.gameRunning then
        { s.csu.clocks[x] with
          value := valueAfter s.csu.clocks[x],
          state := if valueAfter s.csu.clocks[x] = (s.csu.clocks[x]).endValue then .expired else (s.csu.clocks[x]).state }
      else s.csu.clocks[x]
    let told := ((allFin 3).filter (expires s)).foldl expiryEvent (((allFin 3).filter (warns s)).foldl warnEvent
      { s with csu := { s.csu with clocks := counted } })
    countClocks s = if expires s 0 then raisePeriod told else told) ∧
  (∀ (s : State) (c : ClockId),
    let horned := if (s.csu.clocks[c]).horn = true ∧ s.cfl.startup ≠ .safe then
      { s with csu := { s.csu with hornTime := 2000, hornLine := true } } else s
    let t := triggerEvent (.expiry c) (notify (.clockEvent c .expiry (s.csu.clocks[c]).value s.osu.seq) horned)
    expiryEvent s c = if c = 0 then { t with csu := { t.csu with clocks := Vector.ofFn fun k : Fin 3 =>
      if k ≠ 0 ∧ (t.csu.clocks[k]).linked = true ∧ (t.csu.clocks[k]).state = .running then
        { t.csu.clocks[k] with state := .stopped } else t.csu.clocks[k] } } else t) ∧
  (∀ s : State, (s.csu.period = none → raisePeriod s = s) ∧
    ∀ k, s.csu.period = some k →
      let v := min (s.csu.score[k] + 1) 999
      let t := { s with csu := { s.csu with score := upd s.csu.score k fun _ => v } }
      raisePeriod s = if s.csu.score[k] < v then triggerEvent (.scoreUp k) t else t) ∧
  ∀ (i : TickInput) (s : State), s.cfl.startup ≠ .powerUp → Expires s 0 → Leaves (.msTick i) s fun t =>
    ∀ c : ClockId, c ≠ 0 → (s.csu.clocks[c]).linked = true → (s.csu.clocks[c]).state = .running →
      (t.csu.clocks[c]).state = if valueAfter s.csu.clocks[c] = (s.csu.clocks[c]).endValue ∧
        (s.csu.clocks[c]).value ≠ (s.csu.clocks[c]).endValue then .expired else .stopped

/-- The tick: clocks, warnings, expiries, period counter and horn (R85, R86, R92 to R94; log entries 2, 7,
20 and 60). -/
def Obligations.MillisecondTick : Prop :=
  MillisecondTickCountsTheClocks ∧ HornEndDeassertsTheLine ∧ WarningFiresOncePerArming ∧ ExpiryEventTellsAndStops

/-- R95, R96: a sample of the stop line equal to the accepted level clears the run; a different one
lengthens it until filter time + 1 samples differ, when the level is accepted (the row STOP_LINE_ACCEPT,
which is this tick: log entry 2; a run kept above a smaller filter time accepts at the next differing
sample: log entry 56). An accepted assertion stops a RUNNING GAME with the LINKED clocks and holds the
capture value: the counted value corrected by the filter time. -/
def Sys2Proof.Machine.StopLineAcceptedAfterTheFilterTime : Prop :=
  ∀ (i : TickInput) (s : State), s.cfl.startup ≠ .powerUp →
    (i.stopLine = s.csu.stopLevel → Leaves (.msTick i) s fun t =>
      t.csu.stopLevel = s.csu.stopLevel ∧ t.csu.stopRun = 0 ∧ t.csu.capture = s.csu.capture) ∧
    (i.stopLine ≠ s.csu.stopLevel → s.csu.stopRun + 1 < s.csu.stopFilter + 1 → Leaves (.msTick i) s fun t =>
      t.csu.stopLevel = s.csu.stopLevel ∧ t.csu.stopRun = s.csu.stopRun + 1 ∧ t.csu.capture = s.csu.capture) ∧
    (i.stopLine ≠ s.csu.stopLevel → s.csu.stopFilter + 1 ≤ s.csu.stopRun + 1 →
      exec (.stopLineAccept i) s = exec (.msTick i) s ∧
      Leaves (.stopLineAccept i) s fun t =>
        t.csu.stopLevel = i.stopLine ∧ t.csu.stopRun = 0 ∧
        (i.stopLine = true → s.gameRunning = true → ¬Expires s 0 →
          let k := s.csu.clocks[(0 : Fin 3)]
          let v := if k.value = k.endValue then k.value else valueAfter k
          (t.csu.clocks[(0 : Fin 3)]).state = .stopped ∧
          (k.dir = .down → t.csu.capture = some (min (v + s.csu.stopFilter) k.limit)) ∧
          (k.dir = .up → t.csu.capture = some (min (v - s.csu.stopFilter) k.limit)) ∧
          ∀ c : ClockId, (t.csu.clocks[c]).linked = true → (t.csu.clocks[c]).state ≠ .running) ∧
        (i.stopLine = false ∨ s.gameRunning = false → t.csu.capture = s.csu.capture))

/-- R96: an assertion accepted while GAME is RUNNING stops GAME and its LINKED clocks, holds the capture
value, hands LC a CLOCK_EVENT with GAME, CAPTURE, that value, GAME's value and the frame sequence counter,
and hands ROT the GAME-stopped event (after the notice, which is the model's choice: log entry 60). In any
other state of GAME it has no effect. At a tick that does nothing else (no warning, no expiry, no held
message, no change of the alarm line) these are the tick's notices and inserts. -/
def Sys2Proof.Machine.CaptureIsTold : Prop :=
  let captured := fun s : State =>
    let k := s.csu.clocks[(0 : Fin 3)]
    if k.dir = .down then min (k.value + s.csu.stopFilter) k.limit else min (k.value - s.csu.stopFilter) k.limit
  (∀ s : State, (s.gameRunning = false → stopAsserted s = s) ∧
    (s.gameRunning = true → stopAsserted s = triggerEvent .gameStopped
      (notify (.clockEvent 0 (.capture (captured s)) (s.csu.clocks[(0 : Fin 3)]).value s.osu.seq)
        { s with csu := { s.csu with
          capture := some (captured s)
          clocks := Vector.ofFn fun k : Fin 3 =>
            if k = 0 ∨ (s.csu.clocks[k]).linked = true ∧ (s.csu.clocks[k]).state = .running then
              { s.csu.clocks[k] with state := .stopped } else s.csu.clocks[k] } }))) ∧
  ∀ (i : TickInput) (s : State), s.cfl.startup ≠ .powerUp → s.mse.queue = [] → s.mse.display = none →
    i.alarmLine = s.mse.alarmLevel → (∀ c : ClockId, ¬Expires s c ∧ warns s c = false) → s.gameRunning = true →
    i.stopLine = true → s.csu.stopLevel = false → s.csu.stopFilter ≤ s.csu.stopRun →
    Leaves (.stopLineAccept i) s fun t =>
      let v := (t.csu.clocks[(0 : Fin 3)]).value
      ∃ c, t.csu.capture = some c ∧
        t.links = (triggerEvent .gameStopped (notify (.clockEvent 0 (.capture c) v s.osu.seq) s)).links ∧
        t.rot = (triggerEvent .gameStopped s).rot

/-- R134 to R136: the alarm line's level is accepted after as many differing samples as the filter time (the
row ALARM_LINE_ACCEPT, which is this tick: log entry 2). An accepted assertion brings ALARM_EVAC; an
accepted negation in ALARM_EVAC brings ALARM_HELD; leaving NONE takes the message off the display and sets
the hold of every rotation zone. -/
def Sys2Proof.Machine.AlarmLineMovesTheEmergencyState : Prop :=
  ∀ (i : TickInput) (s : State), s.cfl.startup ≠ .powerUp →
    (i.alarmLine = s.mse.alarmLevel → Leaves (.msTick i) s fun t =>
      t.mse.alarmLevel = s.mse.alarmLevel ∧ t.mse.alarmRun = 0 ∧ t.mse.emergency = s.mse.emergency) ∧
    (i.alarmLine ≠ s.mse.alarmLevel → s.mse.alarmRun + 1 < s.mse.alarmFilter → Leaves (.msTick i) s fun t =>
      t.mse.alarmLevel = s.mse.alarmLevel ∧ t.mse.alarmRun = s.mse.alarmRun + 1 ∧ t.mse.emergency = s.mse.emergency) ∧
    (i.alarmLine ≠ s.mse.alarmLevel → s.mse.alarmFilter ≤ s.mse.alarmRun + 1 →
      exec (.alarmLineAccept i) s = exec (.msTick i) s ∧
      Leaves (.alarmLineAccept i) s fun t =>
        t.mse.alarmLevel = i.alarmLine ∧ t.mse.alarmRun = 0 ∧
        (i.alarmLine = true → t.mse.emergency = .alarmEvac) ∧
        (i.alarmLine = false → s.mse.emergency = .alarmEvac → t.mse.emergency = .alarmHeld) ∧
        (i.alarmLine = false → s.mse.emergency ≠ .alarmEvac → t.mse.emergency = s.mse.emergency) ∧
        (i.alarmLine = true → s.mse.emergency = .none → t.mse.display = none ∧
          ∀ (z : ZoneId) (r : RotZone), t.rot.zones[z] = some r → r.hold = true))

/-- The two filtered input lines at a tick (R95, R96, R134 to R136; log entries 2, 56 and 60). -/
def Obligations.FilteredLines : Prop :=
  StopLineAcceptedAfterTheFilterTime ∧ CaptureIsTold ∧ AlarmLineMovesTheEmergencyState

/-- R131 (the row MESSAGE_EXPIRY), R188 (the row WRITE_IDLE_TIMEOUT): a tick counts a message's expiry down;
at 0 a queued message leaves the part and the message on display takes its expired mark. A write held
RECEIVING without data for 30,000 ms is discarded. Both rows are the tick (log entry 2). -/
def Sys2Proof.Machine.TickExpiresAMessageOrAWrite : Prop :=
  ∀ (i : TickInput) (s : State), s.cfl.startup ≠ .powerUp → i.alarmLine = s.mse.alarmLevel →
    (∀ m, s.mse.queue = [m] → s.mse.display = none →
      (∀ n, m.expiry = some (n + 2) → Leaves (.msTick i) s fun t =>
        t.mse.queue = [{ m with expiry := some (n + 1) }] ∧ t.mse.display = none) ∧
      (m.expiry = none → Leaves (.msTick i) s fun t => t.mse.queue = [m]) ∧
      (m.expiry = some 1 → exec (.messageExpiry m.id m.source i) s = exec (.msTick i) s ∧
        Leaves (.messageExpiry m.id m.source i) s fun t => t.mse.queue = [])) ∧
    (∀ d, s.mse.queue = [] → s.mse.display = some d → d.message.expiry = some 1 →
      Leaves (.messageExpiry d.message.id d.message.source i) s fun t =>
        t.mse.display = some { d with message := { d.message with expiry := some 0, expired := true } }) ∧
    ∀ w n d k, s.cfl.staging = .receiving w n d k →
      (k + 1 < 30000 → Leaves (.msTick i) s fun t => t.cfl.staging = .receiving w n d (k + 1)) ∧
      (30000 ≤ k + 1 → exec (.writeIdleTimeout i) s = exec (.msTick i) s ∧
        Leaves (.writeIdleTimeout i) s fun t => t.cfl.staging = .idle)

/-- R131: a tick counts the expiry of every held message. Of the queued ones every message that reaches 0
leaves, each giving its asset's reference back and handing LC a MSG_STATE EXPIRED; several at one tick go in
queue order (log entry 20); the others keep their order. The message on display takes its mark. The row
MESSAGE_EXPIRY of any of them is the tick (log entry 2). -/
def Sys2Proof.Machine.MessagesExpireTogether : Prop :=
  let less := fun m : Message => { m with expiry := m.expiry.map (· - 1) }
  (∀ (i : TickInput) (s : State), s.cfl.startup ≠ .powerUp →
    (i.alarmLine = s.mse.alarmLevel → Leaves (.msTick i) s fun t =>
      t.mse.queue = (s.mse.queue.filter fun m => m.expiry != some 1).map less ∧
      t.mse.display = s.mse.display.map fun d => { d with message :=
        { less d.message with expired := d.message.expired || d.message.expiry == some 1 } }) ∧
    ∀ m, (m ∈ s.mse.queue ∨ s.mse.display.map (·.message) = some m) → m.expiry = some 1 →
      exec (.messageExpiry m.id m.source i) s = exec (.msTick i) s) ∧
  ∀ s : State,
    let gone := s.mse.queue.filter fun m => m.expiry == some 1
    (countExpiries s).links =
      (notifyAll (gone.map fun m => .message m.id m.source m.cls .expired m.repeats s.osu.seq) s).links ∧
    (directoryOk s.ast.directory = true → ∀ a, (countExpiries s).asset a =
      { s.asset a with refs := (s.asset a).refs - (gone.filter (·.asset == a)).length }) ∧
    (countExpiries s).zones = s.zones ∧ Elsewhere s (countExpiries s)

/-- R65, R127, R128: a composition's end hands its report to both readers, in either order; with no
emergency standing the display step counts the frame of the message on display. At its last frame it uses a
repeat: with none left it is DONE, with the expired mark EXPIRED, otherwise QUEUED behind its class. Else,
in this order: WHEN_STOPPED with GAME RUNNING, or an eligible message of a higher class, returns it ahead of
its class with its repeats (EXPIRED where marked); or it stays. Each departure gives a MSG_STATE; DONE and
EXPIRED give the asset's reference back. -/
def Sys2Proof.Machine.DisplayCountsAndReturns : Prop :=
  (∀ (o : ReportOrder) (s : State), s.inRun = true → s.cmp.comp.phase = .planned → s.cmp.comp.queries = [] →
    s.cmp.taken = [] → exec (.compositionEnd o) s = .next (match o with
      | .rotFirst => displayStep (rotationStep s.cmp.comp.num (buildFrame s))
      | .mseFirst => rotationStep s.cmp.comp.num (displayStep (buildFrame s)))) ∧
  (∀ s : State, (s.mse.emergency ≠ .none → displayStep s = s) ∧
    (s.mse.emergency = .none →
      displayStep s = alignAlert (takeOn (countDisplay s)).2 (takeOn (countDisplay s)).1)) ∧
  (∀ s : State, s.mse.display = none → countDisplay s = s) ∧
  ∀ (s : State) (d : Display), s.mse.display = some d →
    let m := d.message
    let used := { m with repeats := m.repeats - 1 }
    let told := fun (m : Message) (c : MessageChange) (u : State) =>
      notify (.message m.id m.source m.cls c m.repeats s.osu.seq) u
    let off := fun q : List Message => { s with mse := { s.mse with display := none, queue := q } }
    let gone := fun (m : Message) (c : MessageChange) => told m c (giveAsset m.asset (off s.mse.queue))
    let split := fun (test : Message → Bool) (m : Message) =>
      s.mse.queue.takeWhile test ++ m :: s.mse.queue.dropWhile test
    let ahead := fun c : MessageChange =>
      if m.expired then gone m .expired else told m c (off (split (fun x => decide (m.cls.rank < x.cls.rank)) m))
    let byGame := m.whenStopped = true ∧ s.gameRunning = true
    let byClass := ∃ x, firstOf s = some x ∧ m.cls.rank < x.cls.rank
    (d.framesLeft ≤ 1 → countDisplay s =
      if m.repeats ≤ 1 then gone used .doneComplete
      else if m.expired then gone used .expired
      else told used .queuedRepeat (off (split (fun x => decide (m.cls.rank ≤ x.cls.rank)) used))) ∧
    (1 < d.framesLeft → byGame → countDisplay s = ahead .queuedGameRunning) ∧
    (1 < d.framesLeft → ¬byGame → byClass → countDisplay s = ahead .queuedPreempted) ∧
    (1 < d.framesLeft → ¬byGame → ¬byClass → countDisplay s =
      { s with mse := { s.mse with display := some { d with framesLeft := d.framesLeft - 1 } } })

/-- R129: with the display empty the first eligible message leaves the queue for its full duration, with a
MSG_STATE ON_AIR, and is written to every MESSAGE zone; with none, and the zone mark not at the fallback,
each MESSAGE zone's fallback is written; else nothing (the mark: log entry 58). -/
def Sys2Proof.Machine.TakeOnWritesTheMessageZones : Prop :=
  ∀ s : State,
    let t := (takeOn s).1
    let writes := fun c : ZoneId → Content => ∀ z : ZoneId, t.zones[z] =
      if (s.zoneCfg z).cls = .message then { s.zones[z] with pending := some (c z) } else s.zones[z]
    let rest := Elsewhere s t ∧ t.rot = s.rot ∧ t.exu = s.exu ∧ t.cqs = s.cqs ∧ t.cmp = s.cmp
    (s.mse.display ≠ none → takeOn s = (s, false)) ∧
    (s.mse.display = none →
      (∀ m, firstOf s = some m → (takeOn s).2 = true ∧
        t.mse = { s.mse with queue := s.mse.queue.filter (fun x => !(x.id == m.id && x.source == m.source)),
                             display := some { message := m, framesLeft := m.duration }, markMessage := true } ∧
        t.links = (notify (.message m.id m.source m.cls .onAir m.repeats s.osu.seq) s).links ∧
        (writes fun _ => .message m.asset m.id m.source m.level) ∧ rest) ∧
      (firstOf s = none →
        (s.mse.markMessage = false → takeOn s = (s, false)) ∧
        (s.mse.markMessage = true → (takeOn s).2 = false ∧ t.mse = { s.mse with markMessage := false } ∧
          t.links = s.links ∧ (writes fun z => fallbackOf (s.zoneCfg z)) ∧ rest)))

/-- R130: an ALERT just taken on claims level 3 of the alert zone; one still on display leaves it; with none
on display a level 3 held is released. -/
def Sys2Proof.Machine.AlertFollowsTheDisplay : Prop :=
  ∀ (s : State) (just : Bool),
    let t := alignAlert just s
    (s.alertZone = none → t = s) ∧
    ∀ z, s.alertZone = some z →
      let held := (s.zones[z]).stack.alert ≠ none
      let alert := ∃ d, s.mse.display = some d ∧ d.message.cls = .alert
      t.mse = s.mse ∧ (¬alert → ¬held → t = s) ∧
      (¬alert → held → t = (release z 3 .messageEngine false s).1 ∧ (t.zones[z]).stack.alert = none) ∧
      (alert → held → just = false → t = s) ∧
      ∀ d, s.mse.display = some d → d.message.cls = .alert → just = true →
        let content := Content.alert d.message.asset d.message.id d.message.source d.message.level
        t = (claim z 3 .messageEngine content s).1 ∧ (t.zones[z]).stack.alert = some content

/-- Held messages: their expiry at ticks (R131; log entries 2 and 20) and the display step of a report (R127
to R130; log entry 58); and the write that idles (R188). -/
def Obligations.TicksExpireMessagesAndIdleWrites : Prop :=
  TickExpiresAMessageOrAWrite ∧ MessagesExpireTogether ∧ DisplayCountsAndReturns ∧ TakeOnWritesTheMessageZones ∧
    AlertFollowsTheDisplay

/-! ## Clock and score requests (section 6) -/

/-- R87: SET_CLOCK on a clock in RUNNING is answered STATE and changes nothing; in every other state the
clock takes the value, clamped to its limit, and goes to SET; the reply is OK and carries the value taken;
the capture value stays. -/
def Obligations.SetClockTakesTheClampedValue : Prop :=
  ∀ (s : State) (l : Link) (p : List Byte) (c : ClockId), p.length = 5 → byteAt p 0 = c.val →
    let v := min (word p 1) (s.csu.clocks[c]).limit
    ((s.csu.clocks[c]).state = .running → Refuses (.setClock l) l 32 p s .state) ∧
    ((s.csu.clocks[c]).state ≠ .running → Answers (.setClock l) l 32 p s
      { s with csu := { s.csu with clocks := upd s.csu.clocks c fun k =>
        { k with value := v, state := .set, armed := armedAt k v } } } .ok (.clockValue v))

/-- R86, R88: START_CLOCK on a clock that is RUNNING, EXPIRED or at its end is answered STATE; otherwise the
clock goes to RUNNING, with GAME every LINKED clock that may start too, and the reply lists the clocks
GAME's start started. -/
def Sys2Proof.Machine.StartClockRunsTheClock : Prop :=
  ∀ (s : State) (l : Link) (p : List Byte) (c : ClockId), p.length = 1 → byteAt p 0 = c.val →
    (¬MayStart s.csu.clocks[c] → Refuses (.startClock l) l 33 p s .state) ∧
    (MayStart s.csu.clocks[c] → c ≠ 0 → Answers (.startClock l) l 33 p s
      { s with csu := { s.csu with clocks := upd s.csu.clocks c fun k => { k with state := .running } } } .ok .empty) ∧
    (MayStart s.csu.clocks[c] → c = 0 →
      let starts := fun k : ClockId =>
        k = 0 ∨ (s.csu.clocks[k]).linked = true ∧ (s.csu.clocks[k]).startable = true
      let clocks := Vector.ofFn fun k : ClockId =>
        if starts k then { s.csu.clocks[k] with state := ClockState.running } else s.csu.clocks[k]
      Answers (.startClock l) l 33 p s { s with csu := { s.csu with clocks := clocks } } .ok
        (.clocksStarted ((allFin 3).filter fun k => decide (starts k))))

/-- R86, R89: STOP_CLOCK on a clock that is not RUNNING is answered STATE; otherwise it goes to STOPPED with
its value, which the reply carries; with GAME the LINKED clocks in RUNNING stop too and the GAME-stopped
trigger event is taken, its notices before the reply (R15 leaves either order: the model's choice, log entry
55). -/
def Sys2Proof.Machine.StopClockHoldsTheValue : Prop :=
  ∀ (s : State) (l : Link) (p : List Byte) (c : ClockId), p.length = 1 → byteAt p 0 = c.val →
    let v := (s.csu.clocks[c]).value
    ((s.csu.clocks[c]).state ≠ .running → Refuses (.stopClock l) l 34 p s .state) ∧
    ((s.csu.clocks[c]).state = .running → c ≠ 0 → Answers (.stopClock l) l 34 p s
      { s with csu := { s.csu with clocks := upd s.csu.clocks c fun k => { k with state := .stopped } } } .ok
      (.clockValue v)) ∧
    ((s.csu.clocks[c]).state = .running → c = 0 → Answers (.stopClock l) l 34 p s
      (triggerEvent .gameStopped { s with csu := { s.csu with clocks := Vector.ofFn fun k : Fin 3 =>
        if k = 0 ∨ (s.csu.clocks[k]).linked = true ∧ (s.csu.clocks[k]).state = .running then
          { s.csu.clocks[k] with state := .stopped } else s.csu.clocks[k] } }) .ok (.clockValue v))

/-- START_CLOCK and STOP_CLOCK (R86, R88, R89; log entry 55). -/
def Obligations.StartAndStopClock : Prop :=
  StartClockRunsTheClock ∧ StopClockHoldsTheValue

/-- R90, R91: ADJUST_CLOCK refuses a delta outside ±600,000 (RANGE) and a RUNNING clock (STATE); otherwise
the value moves by the delta within 0 and the limit, and an EXPIRED clock whose value changes goes to
STOPPED. RESET_SHOT gives SHOT its reset value in any state and brings an EXPIRED SHOT to SET. -/
def Sys2Proof.Machine.AdjustClockAndResetShot : Prop :=
  (∀ (s : State) (l : Link) (p : List Byte) (c : ClockId), p.length = 5 → byteAt p 0 = c.val →
    let delta := signed 32 (word p 1)
    let k := s.csu.clocks[c]
    let v := min ((k.value : Int) + delta).toNat k.limit
    let st := if k.state = .expired ∧ v ≠ k.value then ClockState.stopped else k.state
    (delta < -600000 ∨ 600000 < delta → Refuses (.adjustClock l) l 35 p s .range) ∧
    (-600000 ≤ delta → delta ≤ 600000 → k.state = .running → Refuses (.adjustClock l) l 35 p s .state) ∧
    (-600000 ≤ delta → delta ≤ 600000 → k.state ≠ .running →
      Answers (.adjustClock l) l 35 p s
        { s with csu := { s.csu with clocks := upd s.csu.clocks c fun k =>
          { k with value := v, state := st, armed := armedAt k v } } } .ok (.clockValueState v st))) ∧
  ∀ (s : State) (l : Link),
    Answers (.resetShot l) l 36 [] s
      { s with csu := { s.csu with clocks := upd s.csu.clocks 1 fun k =>
        let v := min k.reset k.limit
        { k with value := v, armed := armedAt k v,
                 state := if k.state = .expired then .set else k.state } } } .ok .empty

/-- R94, R97: APPLY_CAPTURE is answered STATE while GAME is RUNNING and UNKNOWN without a capture value;
otherwise GAME takes it and goes to STOPPED, and the capture value is absent. HORN starts the one-shot with
its duration, clamped to 100 to 5,000 ms, which the reply carries. -/
def Sys2Proof.Machine.ApplyCaptureAndHorn : Prop :=
  (∀ (s : State) (l : Link),
    (s.gameRunning = true → Refuses (.applyCapture l) l 37 [] s .state) ∧
    (s.gameRunning = false → s.csu.capture = none → Refuses (.applyCapture l) l 37 [] s .unknown) ∧
    ∀ c, s.gameRunning = false → s.csu.capture = some c →
      let v := min c (s.csu.clocks[(0 : Fin 3)]).limit
      Answers (.applyCapture l) l 37 [] s
        { s with csu := { s.csu with capture := none, clocks := upd s.csu.clocks 0 fun k =>
          { k with value := v, state := .stopped, armed := armedAt k v } } } .ok (.clockValue v)) ∧
  ∀ (s : State) (l : Link) (p : List Byte), p.length = 2 →
    let d := max 100 (min 5000 (half p 0))
    Answers (.horn l) l 38 p s { s with csu := { s.csu with hornTime := d, hornLine := true } } .ok (.hornTaken d)

/-- ADJUST_CLOCK, RESET_SHOT, APPLY_CAPTURE and HORN (R90, R91, R94, R97). -/
def Obligations.ClockCorrectionsAndHorn : Prop :=
  AdjustClockAndResetShot ∧ ApplyCaptureAndHorn

/-- R100, R101: SET_SCORE gives a counter a value up to 999; ADD_SCORE moves it by a delta of −99 to +99
within 0 and 999; values and deltas outside are answered RANGE; the reply carries the counter. A change that
raises the counter gives its score event, whose notices precede the reply (R15 leaves either order: the
model's choice, log entry 55). -/
def Obligations.ScoreRequestsWriteTheCounter : Prop :=
  ∀ (s : State) (l : Link) (p : List Byte) (k : CounterId), byteAt p 0 = k.val →
    let wrote := fun (v : Nat) => { s with csu := { s.csu with score := upd s.csu.score k fun _ => v } }
    let left := fun (v : Nat) => if s.csu.score[k] < v then triggerEvent (.scoreUp k) (wrote v) else wrote v
    let delta := signed 8 (byteAt p 1)
    (p.length = 3 →
      (999 < half p 1 → Refuses (.setScore l) l 39 p s .range) ∧
      (half p 1 ≤ 999 → Answers (.setScore l) l 39 p s (left (half p 1)) .ok (.scoreValue (half p 1)))) ∧
    (p.length = 2 →
      (delta < -99 ∨ 99 < delta → Refuses (.addScore l) l 40 p s .range) ∧
      (-99 ≤ delta → delta ≤ 99 →
        let v := min ((s.csu.score[k] : Int) + delta).toNat 999
        Answers (.addScore l) l 40 p s (left v) .ok (.scoreValue v)))

/-! ## Zones and claims (section 3) -/

/-- R40: SHOW and HIDE of a zone that is not CLOCK or SCORE class are answered RANGE; SHOW records the shown
flag set and writes the zone's pending content; HIDE records it clear; every other zone is left. -/
def Sys2Proof.Machine.ShowAndHideRecordTheFlag : Prop :=
  ∀ (s : State) (l : Link) (p : List Byte) (z : ZoneId), p.length = 1 → byteAt p 0 = z.val →
    ((s.zoneCfg z).cls ≠ .clock → (s.zoneCfg z).cls ≠ .score →
      Refuses (.showZone l) l 41 p s .range ∧ Refuses (.hideZone l) l 42 p s .range) ∧
    ((s.zoneCfg z).cls = .clock ∨ (s.zoneCfg z).cls = .score →
      AnswersWith (.showZone l) l 41 p s .ok .empty (fun t =>
        t.zones = (upd s.zones z fun r =>
          { r with recorded := true, pending := some (if (s.zoneCfg z).cls = .clock then .clock else .score) }) ∧
        t.links = s.links ∧ Elsewhere s t ∧ t.cmp = s.cmp ∧ t.rot = s.rot) ∧
      Answers (.hideZone l) l 42 p s { s with zones := upd s.zones z fun r => { r with recorded := false } } .ok .empty)

/-- R41 to R44: TAKEOVER claims level 2 of a MAIN zone for the link with CLOCK content: RANGE for another
zone, HELD when another link holds the level, otherwise OK with whether it is the top; a new top writes its
content (or a GAP) as pending. RELEASE_TAKEOVER gives the level up: STATE when the link does not hold it. -/
def Sys2Proof.Machine.TakeoverClaimsLevelTwo : Prop :=
  ∀ (s : State) (l : Link) (p : List Byte) (z : ZoneId), p.length = 1 → byteAt p 0 = z.val →
    (s.isMain z = false →
      Refuses (.takeover l) l 43 p s .range ∧ Refuses (.releaseTakeover l) l 44 p s .range) ∧
    (s.isMain z = true →
      (∀ m c, (s.zones[z]).stack.takeover = some (m, c) → m ≠ l →
        Refuses (.takeover l) l 43 p s .held ∧ Refuses (.releaseTakeover l) l 44 p s .state) ∧
      ((s.zones[z]).stack.takeover = none →
        Refuses (.releaseTakeover l) l 44 p s .state ∧
        AnswersWith (.takeover l) l 43 p s .ok (.top (s.zones[z]).stack.alert.isNone) (fun t =>
          (t.zones[z]).stack.takeover = some (l, .clock) ∧ (t.zones[z]).stack.alert = (s.zones[z]).stack.alert ∧
          (t.zones[z]).stack.replay = (s.zones[z]).stack.replay ∧
          ((s.zones[z]).stack.alert = none →
            (t.zones[z]).pending = some (if 0 < (s.zoneCfg z).gap then .gap else .clock)) ∧
          ((s.zones[z]).stack.alert ≠ none → (t.zones[z]).pending = (s.zones[z]).pending) ∧
          (∀ y : ZoneId, y ≠ z → t.zones[y] = s.zones[y]) ∧ Elsewhere s t)) ∧
      (∀ c, (s.zones[z]).stack.takeover = some (l, c) →
        AnswersWith (.takeover l) l 43 p s .ok (.top (s.zones[z]).stack.alert.isNone) (fun t =>
          (t.zones[z]).stack.takeover = some (l, .clock) ∧ Elsewhere s t) ∧
        AnswersWith (.releaseTakeover l) l 44 p s .ok .empty (fun t =>
          (t.zones[z]).stack.takeover = none ∧ (t.zones[z]).stack.replay = (s.zones[z]).stack.replay ∧
          ((s.zones[z]).stack.alert = none → 0 < (s.zoneCfg z).gap → (t.zones[z]).pending = some .gap) ∧
          (∀ y : ZoneId, y ≠ z → t.zones[y] = s.zones[y]) ∧ Elsewhere s t)))

/-- R44, R45, R155: a claim that takes the top from level 0 writes its content, or a GAP, as pending and
cuts the zone's airing with cause TOP_LOST; no other zone and no other rotation record changes, and with no
airing none does. A TAKEOVER is such a claim. -/
def Sys2Proof.Machine.TopLostCutsTheAiring : Prop :=
  (∀ (s : State) (z : ZoneId) (level : Nat) (h : Holder) (c : Content), s.isMain z = true → 1 ≤ level → level ≤ 3 →
    (level = 3 → h = .messageEngine) → (level ≠ 3 → h ≠ .messageEngine ∧ h ≠ .rotation) →
    (s.zones[z]).stack.top = 0 →
    let t := (claim z level h c s).1
    CutsAiring .topLost s t z ∧ (t.zones[z]).pending = some (if 0 < (s.zoneCfg z).gap then .gap else c) ∧
    ((∀ r, s.rot.zones[z] = some r → r.airing = none) → t.rot = s.rot) ∧ t.rot = { s.rot with zones := t.rot.zones } ∧
    ∀ y : ZoneId, y ≠ z → t.zones[y] = s.zones[y] ∧ t.rot.zones[y] = s.rot.zones[y]) ∧
  ∀ (s : State) (l : Link) (p : List Byte) (z : ZoneId), p.length = 1 → byteAt p 0 = z.val → s.isMain z = true →
    (s.zones[z]).stack.top = 0 → AnswersWith (.takeover l) l 43 p s .ok (.top true) (CutsAiring .topLost s · z)

/-- SHOW, HIDE, TAKEOVER and RELEASE_TAKEOVER (R40 to R44), and the airing that a claim cuts (R45, R155). -/
def Obligations.ZoneRequests : Prop :=
  ShowAndHideRecordTheFlag ∧ TakeoverClaimsLevelTwo ∧ TopLostCutsTheAiring

/-- R51, R66, R80, R102, R122, R137, R143, R157, R182: the status reads report the records as they stand and
change nothing, but that CUE_STATUS from the stream-owner link clears the credit-violation flag. -/
def Sys2Proof.Machine.StatusReadsAnswer : Prop :=
  ∀ (s : State) (l : Link) (p : List Byte),
    Answers (.monitorStatus l) l 3 [] s s .ok (.monitorStatus (monitorReport s)) ∧
    Answers (.planStatus l) l 5 [] s s .ok (.planStatus s.cmp.lastPlan) ∧
    Answers (.clockStatus l) l 6 [] s s .ok (.clockStatus (clockReport s)) ∧
    Answers (.messageStatus l) l 8 [] s s .ok (.messageStatus (messageReport s)) ∧
    (s.owner ≠ some l → Answers (.cueStatus l) l 7 [] s s .ok (.cueStatus (cueReport s))) ∧
    (s.owner = some l → Answers (.cueStatus l) l 7 [] s
      { s with cqs := { s.cqs with violation := false } } .ok (.cueStatus (cueReport s))) ∧
    (p.length = 1 →
      (∀ z : ZoneId, byteAt p 0 = z.val → Answers (.zoneStatus l) l 4 p s s .ok (.zoneStatus (zoneReport z s))) ∧
      (byteAt p 0 ≤ 127 →
        Answers (.rotationStatus l) l 9 p s s .ok (.rotationStatus (rotationReport (byteAt p 0) s))) ∧
      ∀ c : ContractId, byteAt p 0 = c.val →
        Answers (.readContract l) l 85 p s s .ok (.bytes (contractReport c s.exu.contracts[c]))) ∧
    (p.length = 2 → half p 0 ≤ 511 →
      Answers (.assetStatus l) l 21 p s s .ok (.assetStatus (assetReport (half p 0) s)))

/-- R51: the zone report: class, layer (7 for EMERGENCY), rectangle, change gap, the mirror group led and
followed, shown flag, current content with its requested level and start frame, kind of the pending content,
gap count; for a MAIN zone each level of the claim stack and the top. -/
def Sys2Proof.Machine.ZoneReportCarriesItsFields : Prop :=
  ∀ (s : State) (z : ZoneId),
    let g := s.zoneCfg z
    let r := s.zones[z]
    let k := r.stack
    let m := s.cfl.image.classMap
    let t := zoneReport z s
    let leads := fun n : Nat => ∃ (i : Fin 4) (a : MirrorGroup), i.val = n ∧ s.cfl.image.groups[i] = some a ∧ a.leader = z.val
    let follows := fun n : Nat =>
      ∃ (i : Fin 4) (a : MirrorGroup), i.val = n ∧ s.cfl.image.groups[i] = some a ∧ z.val ∈ a.followers
    t.cls = g.cls ∧ t.rectangle = (g.col, g.row, g.width, g.height) ∧ t.gap = g.gap ∧ t.shown = r.shown ∧
    t.layer = (match g.cls with
      | .main => m.main
      | .sponsor => m.sponsor
      | .message => m.message
      | .clock => m.clock
      | .score => m.score
      | .emergency => 7) ∧
    (t.leaderOf = none ↔ ∀ n, ¬leads n) ∧ (∀ n, t.leaderOf = some n → leads n) ∧
    (t.followerOf = none ↔ ∀ n, ¬follows n) ∧ (∀ n, t.followerOf = some n → follows n) ∧
    t.current = r.current ∧ (∀ e ∈ framePlan s, e.zone = z → t.level = some e.level) ∧ t.start = r.start ∧
    t.pending = r.pending.map Content.kind ∧ t.gapLeft = r.gapLeft ∧
    (g.cls ≠ .main → t.stack = [] ∧ t.top = none) ∧
    (g.cls = .main →
      t.stack = [some (.rotation, k.rotation.kind), k.replay.map fun e => (.link e.1, e.2.kind),
        k.takeover.map fun e => (.link e.1, e.2.kind), k.alert.map fun c => (.messageEngine, c.kind)] ∧
      t.top = some (if k.alert.isSome then 3 else if k.takeover.isSome then 2 else if k.replay.isSome then 1 else 0))

/-- R182: the monitor report, with each channel's calibration and thresholds in effect, each feed's state
and effective budget floor(B × d / 256), and LVA's last result. -/
def Sys2Proof.Machine.MonitorReportCarriesItsFields : Prop :=
  ∀ s : State, let t := monitorReport s
    t.seq = s.osu.seq ∧ t.standing = s.osu.standing ∧ t.testPending = s.osu.testPending ∧ t.chains = s.osu.chains ∧
    t.settle = s.fmn.settle ∧ t.sample = s.fmn.sample ∧ t.average = s.fmn.average ∧
    t.scanInFlight = s.fmn.scan.isSome ∧ t.skipped = s.fmn.skipped ∧ t.feeds = s.fmn.feeds ∧ t.lva = s.fmn.lva ∧
    (∀ i : FeedId, let f := s.fmn.feeds[i]
      t.feedStates[i.val]? = some (if f.tripped then .tripped else if f.derate = 256 then .normal else .derated) ∧
      t.effectiveBudgets[i.val]? = some (f.budget * f.derate / 256)) ∧
    ∀ i : ChannelId, let c := s.fmn.channels[i]
      (t.channels[i]).enabled = c.enabled ∧ (t.channels[i]).last = c.last ∧
      match c.setting with
      | .current lo hi =>
        let set := if c.effect = .low then lo else hi
        (t.channels[i]).ranges = some (c.selected, c.effect) ∧ (t.channels[i]).calibration = set.cal ∧
          (t.channels[i]).thresholds = (set.low, set.high, set.trip)
      | .voltage cal under sag recover =>
        (t.channels[i]).ranges = none ∧ (t.channels[i]).calibration = cal ∧
          (t.channels[i]).thresholds = (under, sag, recover)

/-- R80, R102, R122, R137, R157: the reports of clocks and score, of cues, of messages, of rotation (how
many spots the reply can hold is free: log entry 12) and of an asset, field by field. (One mark for all
message zones, set or clear, is the model's choice: log entry 58.) -/
def Sys2Proof.Machine.OtherReportsCarryTheirFields : Prop :=
  ∀ s : State,
    let m := messageReport s
    clockReport s = { clocks := s.csu.clocks, strings := s.csu.clocks.toList.map clockString, capture := s.csu.capture,
                      hornTime := s.csu.hornTime, stopLevel := s.csu.stopLevel, stopFilter := s.csu.stopFilter,
                      score := s.csu.score, period := s.csu.period } ∧
    cueReport s = { streamUp := s.cqs.streamUp, owner := s.cfl.image.linkTable.streamOwner,
                    preroll := s.cfl.image.linkTable.preroll, freezeLimit := s.cfl.image.linkTable.freezeLimit,
                    credits := s.cqs.credits, freeSlots := 120 - s.cqs.slots.length,
                    fullSlots := s.cqs.slots.length, violation := s.cqs.violation, discards := s.cqs.discards,
                    lanes := ((allFin 16).filter fun z => decide ((s.zoneCfg z).cls = .main)).map fun z =>
                      (z, s.cqs.lanes[z]),
                    cues := s.cqs.queue.map fun q =>
                      (q, (s.cqs.slots.filter fun e => decide (e.2.cue = q.id)).length) } ∧
    (m.emergency = s.mse.emergency ∧ m.alarmAsset = s.cfl.image.alarm.asset ∧ m.alarmLevel = s.mse.alarmLevel ∧
      m.alarmFilter = s.mse.alarmFilter ∧ m.display = s.mse.display ∧ m.markMessage = s.mse.markMessage ∧
      m.queue = s.mse.queue ∧ m.held = s.mse.queue.length + (if s.mse.display.isSome then 1 else 0) ∧
      (m.holdsAlert = true ↔ ∃ z, s.alertZone = some z ∧ (s.zones[z]).stack.alert ≠ none) ∧
      match s.mse.emergency with
      | .none => m.evacuation = none
      | .linkEvac a => m.evacuation = some a
      | _ => s.inRun = true → m.evacuation = some s.cfl.image.alarm.asset) ∧
    (∀ start,
      let t := rotationReport start s
      t.spots = s.rot.ring.length ∧ t.startIndex = start ∧ (∃ n, t.carried = (s.rot.ring.drop start).take n) ∧
      t.makegood = s.rot.makegood ∧ t.insert = s.rot.insert ∧ t.triggers = s.rot.triggers ∧
      t.nextAiring = s.rot.nextAiring ∧ (∀ z r, (z, r) ∈ t.zones ↔ s.rot.zones[z] = some r) ∧
      (t.zones.map (·.1)).Pairwise (· < ·)) ∧
    ∀ id,
      let t := assetReport id s
      t.id = id ∧ t.refs = (s.asset id).refs ∧ t.freeBlocks = s.ast.freeBlocks ∧
      match (s.asset id).body with
      | .empty => t.loading = false ∧ t.ready = false
      | .loading h l got _ => t.loading = true ∧ t.ready = false ∧ t.shape = some h ∧
          t.total = h.width * h.height * h.frames * 3072 ∧ t.blocks = (t.total + 131071) / 131072 ∧
          t.link = some l ∧ t.received = some got.length
      | .ready h _ load => t.loading = false ∧ t.ready = true ∧ t.shape = some h ∧
          t.total = h.width * h.height * h.frames * 3072 ∧ t.blocks = (t.total + 131071) / 131072 ∧ t.load = some load

/-- R143, R192: the contract report that READ_CONTRACT carries, 23 bytes: id, state (0 UNUSED, 1 OPEN, 2 MET,
3 CLOSED), category, min level, min visible percent, make-good percent, remainder, exclusion set, target,
earned, holdback and reference count. -/
def Sys2Proof.Machine.ContractReportIsLaidOut : Prop :=
  ∀ (c : ContractId) (k : Contract),
    let state := match k.state with
      | .unused => 0
      | .opened => 1
      | .met => 2
      | .closed => 3
    LaidOut (contractReport c k) 23
      [(0, 1, c.val), (1, 1, state), (2, 1, k.category), (3, 1, k.minLevel), (4, 1, k.minVisible), (5, 1, k.makegood),
        (6, 1, k.remainder), (7, 2, k.exclusion.toNat), (9, 4, k.target), (13, 4, k.earned), (17, 4, k.holdback),
        (21, 2, k.refs)]

/-- The status reads (R51, R66, R80, R102, R122, R137, R143, R157, R182, R192), the fields their reports carry
(log entry 12) and the mark of the message zones (the model's choice: log entry 58). -/
def Obligations.StatusReadsReportAndChangeNothing : Prop :=
  StatusReadsAnswer ∧ ZoneReportCarriesItsFields ∧ MonitorReportCarriesItsFields ∧ OtherReportsCarryTheirFields ∧
    ContractReportIsLaidOut

/-! ## Assets (section 5) -/

/-- R71: ASSET_BEGIN's checks in order: a resident id or one outside the link's protection range DENIED, a
shape outside its ranges RANGE, an asset LOADING or referenced IN_USE, too few blocks NO_SPACE; otherwise
the record is LOADING for the link with nothing received and the blocks are taken, those of a READY picture
being returned first. -/
def Sys2Proof.Machine.AssetBeginTakesTheBlocks : Prop :=
  ∀ (s : State) (l : Link) (p : List Byte), p.length = 6 → half p 0 ≤ 511 →
    let id := half p 0
    let shape : Shape := { width := byteAt p 2, height := byteAt p 3, frames := byteAt p 4, interval := byteAt p 5 }
    let admitted := 8 ≤ id ∧ (s.params l).protBase ≤ id ∧ id ≤ (s.params l).protLimit
    let shaped := 1 ≤ shape.width ∧ shape.width ≤ 64 ∧ 1 ≤ shape.height ∧ shape.height ≤ 32 ∧ 1 ≤ shape.frames ∧
      shape.frames ≤ 64 ∧ 1 ≤ shape.interval
    let total := shape.width * shape.height * shape.frames * 3072
    let blocks := (total + 131071) / 131072
    let body := (s.asset id).body
    let available := s.ast.freeBlocks + body.blocks
    let busy := (∃ h m d n, body = .loading h m d n) ∨ body.isReady = true ∧ 0 < (s.asset id).refs
    (¬admitted → Refuses (.assetBegin l) l 16 p s .denied) ∧
    (admitted → ¬shaped → Refuses (.assetBegin l) l 16 p s .range) ∧
    (admitted → shaped → busy → Refuses (.assetBegin l) l 16 p s .inUse) ∧
    (admitted → shaped → ¬busy → available < blocks → Refuses (.assetBegin l) l 16 p s .noSpace) ∧
    (admitted → shaped → ¬busy → blocks ≤ available →
      AnswersWith (.assetBegin l) l 16 p s .ok (.assetBegun total blocks) fun t =>
        (t.asset id).body = .loading shape l [] 0 ∧ t.ast.freeBlocks = available - blocks ∧
        (∀ j, j ≠ id → t.asset j = s.asset j) ∧ t.links = s.links ∧ t.zones = s.zones ∧ Elsewhere s t ∧
        t.exu = s.exu)

/-- R72: ASSET_DATA on an asset the link is not loading is answered STATE; at another offset than the bytes
received FORM with the bytes received; past the byte total FORM; otherwise the data is appended and summed,
and the reply carries the bytes received. -/
def Sys2Proof.Machine.AssetDataAppendsInOrder : Prop :=
  ∀ (s : State) (l : Link) (p : List Byte), 7 ≤ p.length → p.length ≤ 1024 → half p 0 ≤ 511 →
    let id := half p 0
    let data := p.drop 6
    ((s.asset id).body.loadedBy l = false → Refuses (.assetData l) l 17 p s .state) ∧
    ∀ h got sum, (s.asset id).body = .loading h l got sum →
      (word p 2 ≠ got.length → Answers (.assetData l) l 17 p s s .form (.bytesReceived got.length)) ∧
      (word p 2 = got.length → shapeTotal h < got.length + data.length → Refuses (.assetData l) l 17 p s .form) ∧
      (word p 2 = got.length → got.length + data.length ≤ shapeTotal h →
        AnswersWith (.assetData l) l 17 p s .ok (.bytesReceived (got.length + data.length)) fun t =>
          t.asset id = { s.asset id with body := .loading h l (got ++ data) (sum + byteSum data) } ∧
          (∀ j, j ≠ id → t.asset j = s.asset j) ∧ t.ast.freeBlocks = s.ast.freeBlocks ∧ t.links = s.links ∧
          t.zones = s.zones ∧ Elsewhere s t ∧ t.exu = s.exu)

/-- ASSET_BEGIN and ASSET_DATA (R71, R72). -/
def Obligations.AssetLoading : Prop :=
  AssetBeginTakesTheBlocks ∧ AssetDataAppendsInOrder

/-- R73 to R75: ASSET_END of a whole load makes the asset READY with the mean of its sub-pixels as load
figure; of an incomplete one is answered FORM and makes it EMPTY. ASSET_ABORT by the loading link makes it
EMPTY, ASSET_DELETE an unreferenced READY asset of the link's range: the blocks return to the free count. -/
def Obligations.AssetEndAbortDelete : Prop :=
  ∀ (s : State) (l : Link) (p : List Byte), p.length = 2 → half p 0 ≤ 511 → directoryOk s.ast.directory = true →
    let id := half p 0
    let body := (s.asset id).body
    let emptied := fun (t : State) => t.asset id = { body := .empty, refs := 0 } ∧
      t.ast.freeBlocks = s.ast.freeBlocks + body.blocks ∧ (∀ j, j ≠ id → t.asset j = s.asset j) ∧
      t.zones = s.zones ∧ Elsewhere s t ∧ t.exu = s.exu
    let admitted := 8 ≤ id ∧ (s.params l).protBase ≤ id ∧ id ≤ (s.params l).protLimit
    (body.loadedBy l = false → Refuses (.assetEnd l) l 18 p s .state ∧ Refuses (.assetAbort l) l 19 p s .state) ∧
    (∀ h got sum, body = .loading h l got sum →
      (got.length = shapeTotal h → AnswersWith (.assetEnd l) l 18 p s .ok (.loadFigure (sum / shapeTotal h)) fun t =>
        t.asset id = { body := .ready h got (sum / shapeTotal h), refs := 0 } ∧
        (∀ j, j ≠ id → t.asset j = s.asset j) ∧ t.ast.freeBlocks = s.ast.freeBlocks ∧ Elsewhere s t) ∧
      (got.length ≠ shapeTotal h → AnswersWith (.assetEnd l) l 18 p s .form .empty emptied) ∧
      AnswersWith (.assetAbort l) l 19 p s .ok .empty emptied) ∧
    (¬admitted → Refuses (.assetDelete l) l 20 p s .denied) ∧
    (admitted →
      (body = .empty → Refuses (.assetDelete l) l 20 p s .unknown) ∧
      (∀ h m got sum, body = .loading h m got sum → Refuses (.assetDelete l) l 20 p s .state) ∧
      (∀ h d a, body = .ready h d a →
        (0 < (s.asset id).refs → Refuses (.assetDelete l) l 20 p s .inUse) ∧
        ((s.asset id).refs = 0 → AnswersWith (.assetDelete l) l 20 p s .ok .empty emptied)))

/-! ## Replay (section 7) -/

/-- R107 to R109, R115, R123: in POWER_UP and in SAFE a clip frame has no effect (log entry 27); elsewhere one is
discarded and counted while the stream is DOWN; with no credit it sets the credit-violation flag; a frame
larger than every MAIN zone or of the wrong data length, one that belongs to no filling cue, and one below
the cue's expected number are discarded, counted, and their credit granted again (log entry 15 says what a
frame without pixels weighs); any other is stored in the lowest FREE slot (log entry 21) for the cue, with
its numbers, size, data and the mean of its sub-pixels as load figure, uses the credit and moves the
expected number past it; a FROZEN cue whose needed frame it is returns to PLAYING with freeze count 0 (R115).
-/
def Obligations.ClipFrameArrivalStoresOrDiscards : Prop :=
  ∀ (s : State) (f : ClipFrame),
    let counted := if s.cqs.discards < 65535 then s.cqs.discards + 1 else s.cqs.discards
    let fits := f.width ≤ s.mainLargest (·.width) ∧ f.height ≤ s.mainLargest (·.height) ∧
      f.data.length = f.width * f.height * 3072 ∧ ∃ z : ZoneId, s.isMain z = true
    let discarded := Host.Outcome.next (φ := Fault) (ρ := Refusal)
      { s with cqs := { s.cqs with discards := counted, lane := s.cqs.lane ++ [.grant] } }
    (s.cfl.startup = .powerUp ∨ s.cfl.startup = .safe → exec (.clipFrameArrival f) s = .next s) ∧
    (s.cfl.startup ≠ .powerUp → s.cfl.startup ≠ .safe →
    (s.cqs.streamUp = false →
      exec (.clipFrameArrival f) s = .next { s with cqs := { s.cqs with discards := counted } }) ∧
    (s.cqs.streamUp = true → s.cqs.credits = 0 →
      exec (.clipFrameArrival f) s = .next { s with cqs := { s.cqs with violation := true } }) ∧
    (s.cqs.streamUp = true → 0 < s.cqs.credits →
      (¬fits → exec (.clipFrameArrival f) s = discarded) ∧
      (fits → (∀ q ∈ s.cqs.queue, q.wants f.clip f.frame = false) → exec (.clipFrameArrival f) s = discarded) ∧
      ∀ q, fits → s.cqs.queue.find? (fun q => q.wants f.clip f.frame) = some q →
        (f.frame < q.expected → exec (.clipFrameArrival f) s = discarded) ∧
        (∀ i, q.expected ≤ f.frame → lowestFree 120 0 s.cqs.slots = some i → s.cue q.id = some q →
          Leaves (.clipFrameArrival f) s fun t =>
            (∃ load, (f.data ≠ [] → load = byteSum f.data / f.data.length) ∧ t.slot i = some
              { cue := q.id, clip := f.clip, frame := f.frame, width := f.width, height := f.height, load := load,
                data := f.data, readMark := false, freeHeld := false }) ∧
            t.cqs.credits = s.cqs.credits - 1 ∧
            (let filled := { q with expected := f.frame + 1 }
             t.cue q.id = some (if q.state = .frozen ∧ f.frame = q.first + q.position then
               { filled with state := .playing, freeze := 0 } else filled)) ∧
            Elsewhere s t ∧ t.zones = s.zones)))

/-- R111: QUEUE_CUE's checks in order: RANGE, UNKNOWN for an UNUSED contract, IN_USE for a cue id in the
queue, FULL with 8 cues; otherwise the cue joins the back of the queue in QUEUED and takes its contract's
reference. -/
def Sys2Proof.Machine.QueueCueJoinsTheBack : Prop :=
  ∀ (s : State) (l : Link) (p : List Byte), p.length = 12 →
    let first := half p 3
    let count := half p 5
    let rate := byteAt p 7
    let loop := byteAt p 8 != 0
    (count = 0 ∨ 65535 < first + count - 1 ∨ rate = 0 ∨ 8 < rate ∨ (loop = true ∧ 120 < count) ∨ 16 ≤ byteAt p 9 ∨
      (64 ≤ byteAt p 11 ∧ byteAt p 11 ≠ 255) → Refuses (.queueCue l) l 48 p s .range) ∧
    ∀ (z : ZoneId) (att : Option ContractId), byteAt p 9 = z.val → attributionOf (byteAt p 11) = .ok att →
      1 ≤ count → first + count - 1 ≤ 65535 → 1 ≤ rate → rate ≤ 8 → (loop = true → count ≤ 120) →
      (s.isMain z = false → Refuses (.queueCue l) l 48 p s .range) ∧
      (s.isMain z = true →
        let known := ∀ c, att = some c → (s.exu.contracts[c]).state ≠ .unused
        (¬known → Refuses (.queueCue l) l 48 p s .unknown) ∧
        (known → s.cue (byteAt p 0) ≠ none → Refuses (.queueCue l) l 48 p s .inUse) ∧
        (known → s.cue (byteAt p 0) = none → 8 ≤ s.cqs.queue.length → Refuses (.queueCue l) l 48 p s .full) ∧
        (known → s.cue (byteAt p 0) = none → s.cqs.queue.length < 8 →
          AnswersWith (.queueCue l) l 48 p s .ok (.count (s.cqs.queue.length + 1)) fun t =>
            t.cqs = { s.cqs with queue := s.cqs.queue ++
              [{ id := byteAt p 0, clip := half p 1, first := first, count := count, rate := rate, loop := loop,
                 zone := z, level := byteAt p 10, attribution := att, dropped := false, state := .queued,
                 position := 0, repeats := 0, freeze := 0, expected := first, firstListed := none,
                 lastListed := none, listed := 0 }] } ∧
            (∀ c : ContractId, t.exu.contracts[c] =
              { s.exu.contracts[c] with refs := (s.exu.contracts[c]).refs + if att = some c then 1 else 0 }) ∧
            t.links = s.links ∧ t.zones = s.zones ∧ Elsewhere s t ∧ t.ast = s.ast))

/-- R112: PLAY on a zone that is not MAIN is answered RANGE; with the stream DOWN, the lane ACTIVE or no
QUEUED cue for the zone STATE; otherwise the oldest such cue claims level 1 for the stream-owner link, goes
to PREROLL and is the lane's active cue; the reply says whether it is the top. A claim another link holds is
answered HELD. -/
def Sys2Proof.Machine.PlayStartsTheOldestCue : Prop :=
  ∀ (s : State) (l : Link) (p : List Byte) (z : ZoneId), p.length = 1 → byteAt p 0 = z.val →
    (s.isMain z = false → Refuses (.play l) l 49 p s .range) ∧
    (s.isMain z = true →
      (s.cqs.streamUp = false ∨ s.cqs.lanes[z] ≠ none ∨ s.nextCue z = none → Refuses (.play l) l 49 p s .state) ∧
      ∀ (q : Cue) (k : Link), s.cqs.streamUp = true → s.cqs.lanes[z] = none → s.nextCue z = some q →
        s.owner = some k → s.cue q.id = some q →
        (∀ m c, (s.zones[z]).stack.replay = some (m, c) → m ≠ k → Refuses (.play l) l 49 p s .held) ∧
        ((s.zones[z]).stack.replay = none →
          let isTop := (s.zones[z]).stack.takeover.isNone && (s.zones[z]).stack.alert.isNone
          AnswersWith (.play l) l 49 p s .ok (.played q.id isTop) fun t =>
            t.cqs.lanes[z] = some q.id ∧ (t.cue q.id).map (·.state) = some .preroll ∧
            (t.zones[z]).stack.replay = some (k, .clip q.id q.level) ∧
            (isTop = true → (t.zones[z]).pending =
              some (if 0 < (s.zoneCfg z).gap then .gap else .clip q.id q.level)) ∧
            (isTop = false → (t.zones[z]).pending = (s.zones[z]).pending) ∧ Elsewhere s t ∧
            t.cqs.slots = s.cqs.slots))

/-- QUEUE_CUE and PLAY (R111, R112). -/
def Obligations.QueueCueAndPlay : Prop :=
  QueueCueJoinsTheBack ∧ PlayStartsTheOldestCue

/-- R116, R118, R119: STOP_CUE of an id not in the queue is answered UNKNOWN; otherwise the cue leaves the
queue. FLUSH empties the queue. The slots of a cue that leaves become FREE when they carry no read mark, and
after FLUSH no lane of a queued cue is ACTIVE. -/
def Sys2Proof.Machine.StopAndFlushTakeCuesOff : Prop :=
  ∀ (s : State) (l : Link) (p : List Byte), slotsOk s.cqs.slots = true →
    (p.length = 1 →
      (s.cue (byteAt p 0) = none → Refuses (.stopCue l) l 50 p s .unknown) ∧
      ∀ q, s.cue (byteAt p 0) = some q → AnswersWith (.stopCue l) l 50 p s .ok .empty fun t =>
        t.cue q.id = none ∧ Elsewhere s t ∧ (∀ i sl, t.slot i = some sl → sl.cue = q.id → sl.readMark = true)) ∧
    AnswersWith (.flush l) l 51 [] s .ok (.count s.cqs.queue.length) fun t =>
      t.cqs.queue = [] ∧ Elsewhere s t ∧ ∀ q ∈ s.cqs.queue, t.cqs.lanes[q.zone] ≠ some q.id

/-- R116: an active cue that ends leaves the queue. Its closing mark, when it was listed and holds its
attribution, reaches EXU before its contract reference is given back. For DONE, FREEZE and STOP the oldest
QUEUED cue of the zone becomes the lane's active cue in PREROLL, and the level-1 entry's content names it;
with none, and for FLUSH and LINK_END, level 1 is released and the lane is IDLE. The CUE_STATE notices are
those of the final state, with the attribution held until step 3 (the model's choice: log entry 57) and the
slots that a read mark still holds as held count (the model's choice: log entry 34), and of the next cue's
PREROLL. -/
def Sys2Proof.Machine.CueEndsStepByStep : Prop :=
  ∀ (q : Cue) (cause : Option AbortCause) (s : State), s.cue q.id = some q → s.isMain q.zone = true →
    slotsOk s.cqs.slots = true →
    let t := endCue q cause s
    let z := q.zone
    let next := if cause = some .flush ∨ cause = some .linkEnd then none
      else s.cqs.queue.find? fun x => x.zone == z && x.state == .queued
    let stack := (s.zones[z]).stack
    let marked := match q.attribution, q.firstListed, q.lastListed with
      | some c, some first, some last => if 0 < q.listed then takeMark (cueMark q c first last) s else s
      | _, _, _ => s
    let given := match q.attribution with
      | some c => giveContract c marked
      | none => marked
    let final := notify (cueStateOf { q with state := if cause = none then .done else .aborted } cause
      (s.cqs.slots.filter fun e => e.2.cue == q.id && e.2.readMark).length s.osu.seq) given
    t.cue q.id = none ∧ t.exu = given.exu ∧
    (∀ n, next = some n → n.id ≠ q.id → s.cue n.id = some n →
      t.cqs.lanes[z] = some n.id ∧ t.cue n.id = some { n with state := .preroll } ∧
      (t.zones[z]).stack = { stack with replay := stack.replay.map fun e => (e.1, .clip n.id n.level) } ∧
      (stack.top = 1 → (s.zones[z]).gapping = false → (t.zones[z]).pending = some (.clip n.id n.level)) ∧
      t.links = (notify (cueStateOf { n with state := .preroll } none (s.heldCount n.id) s.osu.seq) final).links) ∧
    (next = none → ∀ k c, s.owner = some k → stack.replay = some (k, c) →
      t.cqs.lanes[z] = none ∧ (t.zones[z]).stack = { stack with replay := none } ∧
      (stack.top = 1 → (t.zones[z]).pending = some (if 0 < (s.zoneCfg z).gap then .gap else stack.rotation)) ∧
      (stack.top ≠ 1 → (t.zones[z]).pending = (s.zones[z]).pending) ∧
      t.links = (release z 1 (.link k) (decide (cause = some .linkEnd)) final).1.links)

/-- R118 to R120: STOP_CUE ends an active cue so; a QUEUED cue leaves without a mark and without a change of
lane, zone or stack. FLUSH and the stream-owner link's end take the cues in queue order. The notices of
STOP_CUE and FLUSH precede the reply (R15 leaves either order: the model's choice, log entry 55). -/
def Sys2Proof.Machine.StopAndFlushEndTheirCues : Prop :=
  (∀ (s : State) (l : Link) (p : List Byte) (q : Cue), p.length = 1 → s.cue (byteAt p 0) = some q →
    (s.cqs.lanes[q.zone] = some q.id → Answers (.stopCue l) l 50 p s (endCue q (some .stop) s) .ok .empty) ∧
    (s.cqs.lanes[q.zone] ≠ some q.id → AnswersWith (.stopCue l) l 50 p s .ok .empty fun t =>
      t.cue q.id = none ∧ t.cqs.lanes = s.cqs.lanes ∧ t.zones = s.zones ∧
      (q.attribution = none → t.exu = s.exu) ∧ ∀ c, q.attribution = some c → t.exu = (giveContract c s).exu)) ∧
  (∀ (s : State) (l : Link), Answers (.flush l) l 51 [] s (s.cqs.queue.foldl (abortCue .flush) s) .ok
    (.count s.cqs.queue.length)) ∧
  (∀ s : State, ownerLinkEnd s = s.cqs.queue.foldl (abortCue .linkEnd)
    { s with cqs := { s.cqs with streamUp := false, credits := 0 } }) ∧
  ∀ (s : State) (cause : AbortCause) (q : Cue), s.cqs.lanes[q.zone] = some q.id →
    abortCue cause s q = endCue q (some cause) s

/-- R117: when the level-1 entry loses the top the lane's active cue, PLAYING or FROZEN, goes to SUSPENDED
with freeze count 0 (at once, by a TAKEOVER); when the entry's content comes on air at the adoption point a
SUSPENDED one returns to PLAYING. Each change gives its CUE_STATE; a cue in another state is left. -/
def Sys2Proof.Machine.CueSuspendsAndReturns : Prop :=
  (∀ (s : State) (z : ZoneId),
    (s.cqs.lanes[z] = none → suspendCue z s = s ∧ resumeCue z s = s) ∧
    ∀ q, s.cqs.lanes[z] = some q.id → s.cue q.id = some q →
      let moves := fun (q' : Cue) (t : State) => t.cue q.id = some q' ∧ t.cqs.slots = s.cqs.slots ∧
        t.links = (notify (cueStateOf q' none (s.heldCount q.id) s.osu.seq) s).links ∧
        t = { s with cqs := t.cqs, links := t.links }
      (q.state = .playing ∨ q.state = .frozen → moves { q with state := .suspended, freeze := 0 } (suspendCue z s)) ∧
      (q.state ≠ .playing → q.state ≠ .frozen → suspendCue z s = s) ∧
      (q.state = .suspended → moves { q with state := .playing } (resumeCue z s)) ∧
      (q.state ≠ .suspended → resumeCue z s = s)) ∧
  (∀ (s : State) (l : Link) (p : List Byte) (z : ZoneId) (q : Cue), p.length = 1 → byteAt p 0 = z.val →
    s.isMain z = true → (s.zones[z]).stack.top = 1 → s.cqs.lanes[z] = some q.id → s.cue q.id = some q →
    q.state = .playing ∨ q.state = .frozen → AnswersWith (.takeover l) l 43 p s .ok (.top true) fun t =>
      t.cue q.id = some { q with state := .suspended, freeze := 0 }) ∧
  ∀ (s : State) (z : ZoneId) (q : Cue) (level : Nat), s.inRun = true → s.cmp.comp.phase = .begun → s.isMain z = true →
    adopts s z = true → (s.zones[z]).stack.top = 1 → (s.zones[z]).pending = some (.clip q.id level) →
    s.cqs.lanes[z] = some q.id → s.cue q.id = some q → q.state = .suspended →
    Leaves .adoptionPoint s fun t => t.cue q.id = some { q with state := .playing }

/-- How cues leave the queue (R116, R118 to R120; log entries 34, 55 and 57), and how they are suspended and
return (R117). -/
def Obligations.StopAndFlushEmptyTheQueue : Prop :=
  StopAndFlushTakeCuesOff ∧ CueEndsStepByStep ∧ StopAndFlushEndTheirCues ∧ CueSuspendsAndReturns

/-! ## Crowd messages and evacuation (section 8) -/

/-- R126, R125: POST_MESSAGE's checks in order: RANGE, IN_USE for a message id the link holds, FULL with 32
messages held, NO_ASSET; otherwise the message is placed behind every queued message of its class or a
higher one, with its repeats clamped to 1 to 15 and its expiry in milliseconds, and takes its asset's
reference. -/
def Sys2Proof.Machine.PostMessagePlacesBehindItsClass : Prop :=
  ∀ (s : State) (l : Link) (p : List Byte), p.length = 12 →
    let fieldsOk := half p 6 ≠ 0 ∧ byteAt p 9 ≤ 1 ∧ half p 10 ≤ 3600
    (3 < byteAt p 2 ∨ (byteAt p 2 ≠ 3 ∧ ¬fieldsOk) → Refuses (.postMessage l) l 64 p s .range) ∧
    ∀ cls, messageClassOf (byteAt p 2) = some cls → fieldsOk →
      (s.hasMessage (half p 0) l = true → Refuses (.postMessage l) l 64 p s .inUse) ∧
      (s.hasMessage (half p 0) l = false → 32 ≤ s.held → Refuses (.postMessage l) l 64 p s .full) ∧
      (s.hasMessage (half p 0) l = false → s.held < 32 →
        ((s.asset (half p 3)).body.isReady = false → Refuses (.postMessage l) l 64 p s .noAsset) ∧
        ((s.asset (half p 3)).body.isReady = true →
          let m : Message :=
            { id := half p 0, source := l, cls := cls, asset := half p 3, level := byteAt p 5, duration := half p 6,
              repeats := max 1 (min 15 (byteAt p 8)), whenStopped := byteAt p 9 == 1,
              expiry := if half p 10 = 0 then none else some (half p 10 * 1000), expired := false }
          AnswersWith (.postMessage l) l 64 p s .ok (.count (s.held + 1)) fun t =>
            t.mse = { s.mse with queue := s.mse.queue.takeWhile (fun x => decide (cls.rank ≤ x.cls.rank)) ++
              m :: s.mse.queue.dropWhile fun x => decide (cls.rank ≤ x.cls.rank) } ∧
            t.asset (half p 3) = { s.asset (half p 3) with refs := (s.asset (half p 3)).refs + 1 } ∧
            t.links = s.links ∧ t.zones = s.zones ∧ Elsewhere s t ∧ t.exu = s.exu))

/-- R126, R133, R135, R136: POST_EVACUATE with a field out of range is answered RANGE, STATE in ALARM_EVAC
and ALARM_HELD and NO_ASSET for an asset not READY; in NONE it enters LINK_EVAC with its asset, takes the
message off the display and sets the hold of every rotation zone; in LINK_EVAC the new asset replaces the
old. CLEAR_EVACUATE ends LINK_EVAC and ALARM_HELD and the holds; it is answered STATE in NONE and
ALARM_EVAC. -/
def Sys2Proof.Machine.EvacuationRequests : Prop :=
  ∀ (s : State) (l : Link) (p : List Byte),
    (p.length = 12 → byteAt p 2 = 3 → half p 6 = 0 ∨ 1 < byteAt p 9 ∨ 3600 < half p 10 →
      Refuses (.postEvacuate l) l 64 p s .range) ∧
    (p.length = 12 → byteAt p 2 = 3 → half p 6 ≠ 0 → byteAt p 9 ≤ 1 → half p 10 ≤ 3600 →
      (s.mse.emergency = .alarmEvac ∨ s.mse.emergency = .alarmHeld → Refuses (.postEvacuate l) l 64 p s .state) ∧
      (s.mse.emergency ≠ .alarmEvac → s.mse.emergency ≠ .alarmHeld →
        ((s.asset (half p 3)).body.isReady = false → Refuses (.postEvacuate l) l 64 p s .noAsset) ∧
        ((s.asset (half p 3)).body.isReady = true → AnswersWith (.postEvacuate l) l 64 p s .ok .empty fun t =>
          t.mse.emergency = .linkEvac (half p 3) ∧ Elsewhere s t ∧
          (s.mse.emergency = .none → t.mse.display = none ∧
            ∀ (z : ZoneId) (r : RotZone), t.rot.zones[z] = some r → r.hold = true)))) ∧
    (s.mse.emergency = .none ∨ s.mse.emergency = .alarmEvac → Refuses (.clearEvacuate l) l 66 [] s .state) ∧
    (s.mse.emergency ≠ .none → s.mse.emergency ≠ .alarmEvac →
      AnswersWith (.clearEvacuate l) l 66 [] s .ok .empty fun t =>
        t.mse = { s.mse with emergency := .none } ∧ Elsewhere s t ∧
        ∀ (z : ZoneId) (r : RotZone), t.rot.zones[z] = some r → r.hold = false)

/-- R136, R155: what MSE does when the emergency state leaves NONE. The message on display returns ahead of
the queued messages of its class with its repeats, or leaves the part EXPIRED where it is marked, giving its
asset's reference back; its MSG_STATE comes first. Then level 3 of the alert zone, if held, is released,
with its notice. Then every rotation zone's hold is set and its airing cut with cause EMERGENCY. -/
def Sys2Proof.Machine.LeavingNoneReturnsAndCuts : Prop :=
  ∀ s : State,
    let t := leaveNone s
    let told := fun (m : Message) (c : MessageChange) =>
      notify (.message m.id m.source m.cls c m.repeats s.osu.seq) s
    let noticed := match s.mse.display with
      | none => s
      | some d => told d.message (if d.message.expired then .expired else .queuedEmergency)
    (s.mse.display = none → t.mse = s.mse) ∧
    (∀ d, s.mse.display = some d → let m := d.message
      t.mse = { s.mse with
        display := none
        queue := if m.expired then s.mse.queue else
          s.mse.queue.takeWhile (fun x => decide (m.cls.rank < x.cls.rank)) ++
            m :: s.mse.queue.dropWhile fun x => decide (m.cls.rank < x.cls.rank) }) ∧
    (s.alertZone = none → t.links = noticed.links) ∧
    (∀ z, s.alertZone = some z → (t.zones[z]).stack.alert = none ∧
      t.links = (release z 3 .messageEngine false noticed).1.links) ∧
    (∀ z : ZoneId, CutsAiring .emergency s t z ∧
      (s.rot.zones[z] = none → t.rot.zones[z] = none) ∧
      ∀ r, s.rot.zones[z] = some r → ∃ x, t.rot.zones[z] = some x ∧ x.hold = true ∧ x.cursor = r.cursor ∧
        (r.airing = none → x = { r with hold := true })) ∧
    (directoryOk s.ast.directory = true → (∀ (z : ZoneId) (r : RotZone), s.rot.zones[z] = some r → r.airing = none) →
      (∀ z, s.alertZone = some z → (s.zones[z]).stack.alert = none) → ∀ id, t.asset id = { s.asset id with
        refs := (s.asset id).refs - (if s.mse.display.any (fun d => d.message.expired && d.message.asset == id) then 1 else 0) }) ∧
    t.exu = s.exu ∧ t.cqs = s.cqs ∧ Elsewhere s t

/-- R133: the evacuation asset's references, the notice before the effects of R136 and before the reply (the
model's choice: log entries 38 and 55). A POST_EVACUATE taken in NONE takes a reference to its asset, enters
LINK_EVAC and does what `LeavingNoneReturnsAndCuts` says. In LINK_EVAC the new asset's reference is taken
and the earlier one's given back, and nothing else changes. CLEAR_EVACUATE gives back the reference of a
link evacuation's asset; of every rotation record only the hold changes. -/
def Sys2Proof.Machine.EvacuationCountsItsAsset : Prop :=
  ∀ (s : State) (l : Link), directoryOk s.ast.directory = true →
    (∀ p : List Byte, p.length = 12 → byteAt p 2 = 3 → half p 6 ≠ 0 → byteAt p 9 ≤ 1 → half p 10 ≤ 3600 →
      (s.asset (half p 3)).body.isReady = true →
      let a := half p 3
      (s.mse.emergency = .none → AnswersWith (.postEvacuate l) l 64 p s .ok .empty fun t =>
        ∃ u, u = { s with ast := u.ast } ∧ u.asset a = { s.asset a with refs := (s.asset a).refs + 1 } ∧
          (∀ id, id ≠ a → u.asset id = s.asset id) ∧ t = leaveNone (setEmergency (.linkEvac a) .post u)) ∧
      ∀ old, s.mse.emergency = .linkEvac old → AnswersWith (.postEvacuate l) l 64 p s .ok .empty fun t =>
        (∀ id, t.asset id = { s.asset id with
          refs := (s.asset id).refs + (if id = a then 1 else 0) - (if id = old then 1 else 0) }) ∧
        t.mse = { s.mse with emergency := .linkEvac a } ∧ t.links = (setEmergency (.linkEvac a) .post s).links ∧
        t.zones = s.zones ∧ t.rot = s.rot ∧ t.exu = s.exu ∧ t.cqs = s.cqs) ∧
    let ended := fun t : State => t.zones = s.zones ∧ t.exu = s.exu ∧ t.rot = { s.rot with zones := t.rot.zones } ∧
      ∀ z : ZoneId, t.rot.zones[z] = (s.rot.zones[z]).map fun r => { r with hold := false }
    (∀ a, s.mse.emergency = .linkEvac a → AnswersWith (.clearEvacuate l) l 66 [] s .ok .empty fun t => ended t ∧
      ∀ id, t.asset id = { s.asset id with refs := (s.asset id).refs - (if id = a then 1 else 0) }) ∧
    (s.mse.emergency = .alarmHeld → AnswersWith (.clearEvacuate l) l 66 [] s .ok .empty fun t => ended t ∧ t.ast = s.ast)

/-- POST_EVACUATE and CLEAR_EVACUATE (R126, R133, R135), what leaving NONE does (R136, R155), and the
evacuation asset's references (R133; log entries 38 and 55). -/
def Obligations.EvacuationEntersAndClears : Prop :=
  EvacuationRequests ∧ LeavingNoneReturnsAndCuts ∧ EvacuationCountsItsAsset

/-- R132: CANCEL_MESSAGE of an id the link holds no message of is answered UNKNOWN; a queued message leaves
the queue; the message on display leaves the display, with the alert claim when it is an ALERT. -/
def Sys2Proof.Machine.CancelMessageRemovesIt : Prop :=
  ∀ (s : State) (l : Link) (p : List Byte), p.length = 2 →
    let mine := fun m : Message => m.id == half p 0 && m.source == l
    (s.hasMessage (half p 0) l = false → Refuses (.cancelMessage l) l 65 p s .unknown) ∧
    (∀ m, s.mse.queue.find? mine = some m → AnswersWith (.cancelMessage l) l 65 p s .ok .empty fun t =>
      t.mse = { s.mse with queue := s.mse.queue.filter fun x => !mine x } ∧ t.zones = s.zones ∧ Elsewhere s t ∧
      t.exu = s.exu) ∧
    (∀ d, s.mse.queue.find? mine = none → s.mse.display = some d → mine d.message = true →
      AnswersWith (.cancelMessage l) l 65 p s .ok .empty fun t =>
        t.mse = { s.mse with display := none } ∧ Elsewhere s t ∧
        ∀ z, s.alertZone = some z → d.message.cls = .alert → (t.zones[z]).stack.alert = none)

/-- POST_MESSAGE and CANCEL_MESSAGE (R126, R132). -/
def Obligations.PostAndCancelMessage : Prop :=
  PostMessagePlacesBehindItsClass ∧ CancelMessageRemovesIt

/-! ## Contracts, rotation and exposure (sections 9 and 10) -/

/-- R140, R141: DEFINE's checks: RANGE, then IN_USE for a referenced contract; otherwise the record takes
the fields, with the holdback clamped to the target, earned and remainder 0, and is MET for a target of 0
and OPEN otherwise. -/
def Sys2Proof.Machine.DefineSetsTheContract : Prop :=
  ∀ (s : State) (l : Link) (p : List Byte) (c : ContractId), p.length = 15 → byteAt p 0 = c.val →
    let inRange := byteAt p 1 ≤ 31 ∧ byteAt p 3 ≤ 100 ∧ byteAt p 4 ≤ 100
    let st := if word p 7 = 0 then ContractState.met else .opened
    (¬inRange → Refuses (.define l) l 80 p s .range) ∧
    (inRange → 0 < (s.exu.contracts[c]).refs → Refuses (.define l) l 80 p s .inUse) ∧
    (inRange → (s.exu.contracts[c]).refs = 0 → Answers (.define l) l 80 p s
      { s with exu := { s.exu with contracts := upd s.exu.contracts c fun _ =>
        { category := byteAt p 1, target := word p 7, earned := 0, remainder := 0,
          holdback := min (word p 11) (word p 7), minLevel := byteAt p 2, minVisible := byteAt p 3,
          makegood := byteAt p 4, exclusion := BitVec.ofNat 16 (half p 5), state := st, refs := 0 } } } .ok
      (.contractState st))

/-- R142: SET_TARGET and SET_HOLDBACK of an UNUSED contract are answered UNKNOWN. SET_TARGET takes the
target, clamps the holdback to it, and leaves an OPEN or MET contract MET when earned is at least the target
and OPEN otherwise, a CLOSED one CLOSED; SET_HOLDBACK takes the holdback clamped to the target. Both reply
with target, holdback and state. Nothing else changes: no airing is cut. The length and number clauses
(FORM, RANGE) are stated here too. -/
def Obligations.SetTargetAndHoldback : Prop :=
  ∀ (s : State) (l : Link) (p : List Byte),
    (p.length ≠ 5 → Refuses (.setTarget l) l 81 p s .form ∧ Refuses (.setHoldback l) l 82 p s .form) ∧
    (p.length = 5 → 63 < byteAt p 0 →
      Refuses (.setTarget l) l 81 p s .range ∧ Refuses (.setHoldback l) l 82 p s .range) ∧
    ∀ c : ContractId, p.length = 5 → byteAt p 0 = c.val →
      let k := s.exu.contracts[c]
      let v := word p 1
      let st := if k.state = .closed then ContractState.closed else if v ≤ k.earned then .met else .opened
      (k.state = .unused → Refuses (.setTarget l) l 81 p s .unknown ∧ Refuses (.setHoldback l) l 82 p s .unknown) ∧
      (k.state ≠ .unused →
        Answers (.setTarget l) l 81 p s
          { s with exu := { s.exu with contracts := upd s.exu.contracts c fun k =>
            { k with target := v, holdback := min k.holdback v, state := st } } } .ok
          (.contractTerms v (min k.holdback v) st) ∧
        Answers (.setHoldback l) l 82 p s
          { s with exu := { s.exu with contracts := upd s.exu.contracts c fun k =>
            { k with holdback := min v k.target } } } .ok (.contractTerms k.target (min v k.target) k.state))

/-- R143: CLOSE of an UNUSED contract is answered UNKNOWN, of a CLOSED one STATE, otherwise the contract is
CLOSED; REOPEN of an UNUSED contract is answered UNKNOWN, of an OPEN or MET one STATE, and a CLOSED one
becomes OPEN or MET by earned against target. -/
def Sys2Proof.Machine.CloseAndReopen : Prop :=
  ∀ (s : State) (l : Link) (p : List Byte) (c : ContractId), p.length = 1 → byteAt p 0 = c.val →
    let k := s.exu.contracts[c]
    let left := fun (st : ContractState) =>
      { s with exu := { s.exu with contracts := upd s.exu.contracts c fun k => { k with state := st } } }
    (k.state = .unused → Refuses (.close l) l 83 p s .unknown ∧ Refuses (.reopen l) l 84 p s .unknown) ∧
    (k.state = .opened ∨ k.state = .met →
      Answers (.close l) l 83 p s (left .closed) .ok .empty ∧ Refuses (.reopen l) l 84 p s .state) ∧
    (k.state = .closed →
      Refuses (.close l) l 83 p s .state ∧
      Answers (.reopen l) l 84 p s (left (if k.target ≤ k.earned then .met else .opened)) .ok .empty)

/-- DEFINE, CLOSE and REOPEN (R141, R143). -/
def Obligations.DefineCloseReopen : Prop :=
  DefineSetsTheContract ∧ CloseAndReopen

/-- R144, R145: ADD_SPOT's checks in order (RANGE, UNKNOWN, IN_USE, FULL, NO_ASSET); a spot that passes is
appended to the ring with its references. REMOVE_SPOT of an id not in the ring is answered UNKNOWN;
otherwise the spot leaves the ring and every cursor that named it names the spot that followed it, wrapping
to the first, or none when the ring is now empty; the other cursors stay, and so does the trigger table. The
premise is that the ring's spot ids are distinct, as ADD_SPOT keeps them. -/
def Sys2Proof.Machine.AddAndRemoveSpot : Prop :=
  ∀ (s : State) (l : Link) (p : List Byte),
    (p.length = 9 →
      (63 < byteAt p 1 ∨ 1 < byteAt p 4 ∨ half p 5 = 0 ∨ 2 < byteAt p 7 → Refuses (.addSpot l) l 86 p s .range) ∧
      ∀ (c : ContractId) (cls : SpotClass) (el : Eligibility), byteAt p 1 = c.val → spotClassOf (byteAt p 4) = some cls →
        eligibilityOf (byteAt p 7) = some el → half p 5 ≠ 0 →
        let used := (s.exu.contracts[c]).state ≠ .unused
        let fresh := ∀ t ∈ s.rot.ring, t.id ≠ byteAt p 0
        (¬used → Refuses (.addSpot l) l 86 p s .unknown) ∧
        (used → ¬fresh → Refuses (.addSpot l) l 86 p s .inUse) ∧
        (used → fresh → 128 ≤ s.rot.ring.length → Refuses (.addSpot l) l 86 p s .full) ∧
        (used → fresh → s.rot.ring.length < 128 → (s.asset (half p 2)).body.isReady = false →
          Refuses (.addSpot l) l 86 p s .noAsset) ∧
        (used → fresh → s.rot.ring.length < 128 → (s.asset (half p 2)).body.isReady = true →
          AnswersWith (.addSpot l) l 86 p s .ok (.count (s.rot.ring.length + 1)) fun t =>
            t.rot = { s.rot with ring := s.rot.ring ++
              [{ id := byteAt p 0, contract := c, asset := half p 2, cls := cls, duration := half p 5, elig := el,
                 level := byteAt p 8 }] } ∧
            t.asset (half p 2) = { s.asset (half p 2) with refs := (s.asset (half p 2)).refs + 1 } ∧
            t.exu.contracts = (upd s.exu.contracts c fun k => { k with refs := k.refs + 1 }) ∧
            t.links = s.links ∧ t.zones = s.zones ∧ Elsewhere s t)) ∧
    (p.length = 1 →
      ((∀ t ∈ s.rot.ring, t.id ≠ byteAt p 0) → Refuses (.removeSpot l) l 87 p s .unknown) ∧
      ((∃ t ∈ s.rot.ring, t.id = byteAt p 0) →
        AnswersWith (.removeSpot l) l 87 p s .ok (.count (s.rot.ring.filter (·.id != byteAt p 0)).length) fun t =>
          t.rot.ring = s.rot.ring.filter (·.id != byteAt p 0) ∧ t.rot.triggers = s.rot.triggers ∧ Elsewhere s t) ∧
      ∀ (before after : List Spot) (spot : Spot), s.rot.ring = before ++ spot :: after → spot.id = byteAt p 0 →
        (s.rot.ring.map (·.id)).Nodup →
        AnswersWith (.removeSpot l) l 87 p s .ok (.count (before ++ after).length) fun t =>
          t.rot.ring = before ++ after ∧
          ∀ (z : ZoneId) (r : RotZone), s.rot.zones[z] = some r → ∃ r', t.rot.zones[z] = some r' ∧
            (r.cursor = some (byteAt p 0) → r'.cursor = (after ++ before).head?.map (·.id)) ∧
            (r.cursor ≠ some (byteAt p 0) → r'.cursor = r.cursor))

/-- R145, R155: REMOVE_SPOT gives the spot's asset and contract references back, and cuts with cause REMOVED
each airing whose source is RING and whose spot it is; every other rotation record changes in its cursor
alone, every other zone not at all. -/
def Sys2Proof.Machine.RemoveSpotCutsItsAirings : Prop :=
  ∀ (s : State) (l : Link) (p : List Byte) (spot : Spot), p.length = 1 →
    s.rot.ring.find? (·.id == byteAt p 0) = some spot →
    let airs := fun z : ZoneId => ∃ a, s.airing z = some a ∧ a.source = .ring ∧ a.spot = some spot.id
    AnswersWith (.removeSpot l) l 87 p s .ok (.count (s.rot.ring.filter (·.id != spot.id)).length) fun t =>
      t.exu = { s.exu with contracts := upd s.exu.contracts spot.contract fun k => { k with refs := k.refs - 1 } } ∧
      (∀ z, airs z → CutsAiring .removed s t z) ∧
      (∀ z, ¬airs z → t.zones[z] = s.zones[z] ∧
        (t.rot.zones[z]).map (fun r => { r with cursor := none }) =
          (s.rot.zones[z]).map fun r => { r with cursor := none }) ∧
      ((∀ z, ¬airs z) → directoryOk s.ast.directory = true → ∀ id, t.asset id = { s.asset id with
        refs := (s.asset id).refs - (if id = spot.asset then 1 else 0) }) ∧
      t.links = s.links ∧ t.mse = s.mse ∧ t.cqs = s.cqs

/-- R147: SET_TRIGGER with an unknown source, counter or clock is answered RANGE, with a spot id not in the
ring UNKNOWN; otherwise the entry takes source and spot. CLEAR_TRIGGER of an empty entry is answered STATE;
otherwise the entry becomes empty. -/
def Sys2Proof.Machine.TriggerTableRequests : Prop :=
  ∀ (s : State) (l : Link) (p : List Byte) (i : Fin 8), byteAt p 0 = i.val →
    let left := fun (t : Option Trigger) =>
      { s with rot := { s.rot with triggers := upd s.rot.triggers i fun _ => t } }
    (p.length = 4 →
      (3 < byteAt p 1 ∨ byteAt p 1 = 0 ∧ 15 < byteAt p 2 ∨ (byteAt p 1 = 1 ∨ byteAt p 1 = 3) ∧ 2 < byteAt p 2 →
        Refuses (.setTrigger l) l 88 p s .range) ∧
      ∀ src, triggerOf (byteAt p 1) (byteAt p 2) = some src →
        ((∀ t ∈ s.rot.ring, t.id ≠ byteAt p 3) → Refuses (.setTrigger l) l 88 p s .unknown) ∧
        ((∃ t ∈ s.rot.ring, t.id = byteAt p 3) →
          Answers (.setTrigger l) l 88 p s (left (some ⟨src, byteAt p 3⟩)) .ok .empty)) ∧
    (p.length = 1 →
      (s.rot.triggers[i] = none → Refuses (.clearTrigger l) l 89 p s .state) ∧
      (s.rot.triggers[i] ≠ none → Answers (.clearTrigger l) l 89 p s (left none) .ok .empty))

/-- The spot ring, the airings a removed spot loses, and the trigger table (R144, R145, R147, R155). -/
def Obligations.SpotsAndTriggerTable : Prop :=
  AddAndRemoveSpot ∧ RemoveSpotCutsItsAirings ∧ TriggerTableRequests

/-- R148: outside RUN a trigger event does nothing. In RUN the entries are taken by rising number. One of
another source or whose spot is not in the ring does nothing; with 8 inserts queued it gives TRIGGER_LOST;
otherwise the spot's copy goes behind the insert queue with both references. Ring, table and make-good queue
stay. -/
def Sys2Proof.Machine.TriggerEventQueuesTheSpot : Prop :=
  ∀ (src : TriggerSource) (s : State),
    (s.inRun = false → triggerEvent src s = s) ∧
    (s.inRun = true → triggerEvent src s = (allFin 8).foldl (triggerEntry src) s) ∧
    (∀ i : Fin 8, s.rot.triggers[i] = none → triggerEntry src s i = s) ∧
    (∀ (i : Fin 8) (t : Trigger), s.rot.triggers[i] = some t →
      (t.source ≠ src ∨ (∀ x ∈ s.rot.ring, x.id ≠ t.spot) → triggerEntry src s i = s) ∧
      ∀ spot, t.source = src → s.rot.ring.find? (·.id == t.spot) = some spot →
        (8 ≤ s.rot.insert.length → triggerEntry src s i = notify (.triggerLost i.val t.source t.spot s.osu.seq) s) ∧
        (s.rot.insert.length < 8 → (s.asset spot.asset).body.isReady = true →
          (triggerEntry src s i).rot = { s.rot with insert := s.rot.insert ++
            [{ contract := spot.contract, asset := spot.asset, cls := spot.cls, duration := spot.duration,
               level := spot.level }] } ∧
          (triggerEntry src s i).asset spot.asset =
            { s.asset spot.asset with refs := (s.asset spot.asset).refs + 1 } ∧
          (triggerEntry src s i).exu = { s.exu with contracts := upd s.exu.contracts spot.contract fun k =>
            { k with refs := k.refs + 1 } } ∧
          (triggerEntry src s i).links = s.links ∧ (triggerEntry src s i).zones = s.zones ∧
          Elsewhere s (triggerEntry src s i))) ∧
    (triggerEvent src s).rot = { s.rot with insert := (triggerEvent src s).rot.insert } ∧
    (s.rot.insert.length ≤ 8 → (triggerEvent src s).rot.insert.length ≤ 8)

/-- R153: contract `k` keeps contract `c` off a zone: it is another contract of the same category. -/
def Sys2Proof.Machine.Rivals (s : State) (c k : ContractId) : Prop :=
  k ≠ c ∧ (s.exu.contracts[k]).category = (s.exu.contracts[c]).category

/-- R152, R153, R156: an entry is eligible for a zone when its contract is OPEN, earned and holdback stay
below the target, its clock condition holds, neither the zone nor a follower of it is excluded, and its
category is 0 or no rival of its contract is carried by another rotation zone (airings, content current or
pending), held by a cue PLAYING, FROZEN or SUSPENDED, or that of a cue that entered PLAYING in this
composition. -/
def Sys2Proof.Machine.EligibilityTests : Prop :=
  ∀ (s : State) (cue : Option ContractId) (z : ZoneId) (c : ContractId) (e : Eligibility),
    let k := s.exu.contracts[c]
    let carries := fun (y : ZoneId) (r : RotZone) (x : ContractId) =>
      (∃ a, r.airing = some a ∧ a.contract = x) ∨ (∃ a ∈ r.ending, a.contract = x) ∨
      (∃ a, (s.zones[y]).current.airing = some a ∧ a.contract = x) ∨
      ∃ p a, (s.zones[y]).pending = some p ∧ p.airing = some a ∧ a.contract = x
    eligible s cue z c e = true ↔
      k.state = .opened ∧ k.earned + k.holdback < k.target ∧
      (e = .gameRunning → s.gameRunning = true) ∧ (e = .gameStopped → s.gameRunning = false) ∧
      (∀ y ∈ z :: s.followers z, k.exclusion.getLsbD y.val = false) ∧
      (k.category = 0 ∨
        (∀ (y : ZoneId) (r : RotZone) (x : ContractId), y ≠ z → s.rot.zones[y] = some r → carries y r x →
          ¬Rivals s c x) ∧
        (∀ x, cue = some x → ¬Rivals s c x) ∧
        ∀ q ∈ s.cqs.queue, q.state = .playing ∨ q.state = .frozen ∨ q.state = .suspended → ∀ x, q.attribution = some x →
          ¬Rivals s c x)

/-- R151, R154: the search takes the first entry of the zone's class that is eligible: of the insert queue,
then of the make-good queue, then of the ring from the record's cursor, wrapping round once. Entries of the
two queues that it reaches with a contract MET or CLOSED leave. The entry taken leaves its queue, a ring
spot stays and the cursor moves behind it; a new airing PENDING stands in the record with the next airing
id; with nothing eligible there is none. -/
def Sys2Proof.Machine.PickTakesTheFirstEligible : Prop :=
  ∀ (s : State) (cue : Option ContractId) (z : ZoneId) (r : RotZone), s.rot.zones[z] = some r → r.airing = none →
    let done := fun e : QueueEntry =>
      (s.exu.contracts[e.contract]).state = .met ∨ (s.exu.contracts[e.contract]).state = .closed
    let fits := fun e : QueueEntry => ¬done e ∧ e.cls = s.spotClass z ∧ eligible s cue z e.contract .any = true
    let kept := fun l : List QueueEntry => l.filter fun e => decide (¬done e)
    let suits := fun t : Spot => t.cls = s.spotClass z ∧ eligible s cue z t.contract t.elig = true
    let began := fun (src : AiringSource) (spot : Option Nat) (e : QueueEntry) (t : State) =>
      t.airing z = some { id := s.rot.nextAiring, phase := .pending, source := src, spot := spot, contract := e.contract,
                          asset := e.asset, duration := e.duration, level := e.level, frames := 0, first := none,
                          last := none, cut := none } ∧
      t.rot.nextAiring = s.rot.nextAiring + 1 ∧ t.rot.ring = s.rot.ring ∧ t.zones = s.zones ∧ Elsewhere s t
    let t := pickEntry z cue s
    (∀ before e after, s.rot.insert = before ++ e :: after → (∀ x ∈ before, ¬fits x) → fits e →
      began .insert none e t ∧ t.rot.insert = kept before ++ after ∧ t.rot.makegood = s.rot.makegood) ∧
    ((∀ x ∈ s.rot.insert, ¬fits x) →
      (∀ before e after, s.rot.makegood = before ++ e :: after → (∀ x ∈ before, ¬fits x) → fits e →
        began .makegood none e t ∧ t.rot.insert = kept s.rot.insert ∧ t.rot.makegood = kept before ++ after) ∧
      ((∀ x ∈ s.rot.makegood, ¬fits x) →
        (∀ before spot after, ringFrom s.rot.ring r.cursor = before ++ spot :: after → (∀ x ∈ before, ¬suits x) →
          suits spot →
          began .ring (some spot.id) { contract := spot.contract, asset := spot.asset, cls := spot.cls,
                                       duration := spot.duration, level := spot.level } t ∧
          (t.rot.zones[z]).bind (·.cursor) = nextSpot s.rot.ring spot.id ∧
          t.rot.insert = kept s.rot.insert ∧ t.rot.makegood = kept s.rot.makegood ∧
          (s.rot.insert = [] → s.rot.makegood = [] → (s.asset spot.asset).body.isReady = true →
            t.asset spot.asset = { s.asset spot.asset with refs := (s.asset spot.asset).refs + 1 } ∧
            t.exu.contracts = upd s.exu.contracts spot.contract fun k => { k with refs := k.refs + 1 })) ∧
        ((∀ x ∈ ringFrom s.rot.ring r.cursor, ¬suits x) →
          t.airing z = none ∧ t.rot.nextAiring = s.rot.nextAiring ∧ t.rot.ring = s.rot.ring ∧
          t.rot.insert = kept s.rot.insert ∧ t.rot.makegood = kept s.rot.makegood)))

/-- R151, R149: a pick is due for a record without an airing and without hold, for a MAIN zone when its
stack is down to level 0 and no GAP is current or pending. A pick that takes an entry writes the airing's
content, for a SPONSOR zone as pending content, and clears the fallback-shown flag; otherwise the fallback
is written if that is clear. -/
def Sys2Proof.Machine.PicksWriteTheirContent : Prop :=
  ∀ (s : State) (z : ZoneId) (r : RotZone), s.rot.zones[z] = some r →
    let due := r.airing = none ∧ r.hold = false ∧ (s.isMain z = true → (s.zones[z]).stack.top = 0 ∧
      (s.zones[z]).current ≠ .gap ∧ (s.zones[z]).pending ≠ some .gap)
    let t := pickEntry z none s
    let written := fun (c : Content) (u : State) =>
      (u.rot.zones[z]).map (·.fallbackShown) = some c.isFallback ∧
      (s.isMain z = false → (u.zones[z]).pending = some c) ∧
      (s.isMain z = true → (u.zones[z]).stack.rotation = c ∧
        ((s.zones[z]).stack.top = 0 → (s.zones[z]).gapping = false → (u.zones[z]).pending = some c))
    (due → ∀ a, t.airing z = some a →
      written (.asset a.asset a.level (some ⟨a.id, a.contract⟩) false) (pickIfDue z s)) ∧
    (due → t.airing z = none → (r.fallbackShown = true → pickIfDue z s = t) ∧
      (r.fallbackShown = false → written (fallbackOf (s.zoneCfg z)) (pickIfDue z s))) ∧
    (¬due → (r.airing ≠ none ∨ r.fallbackShown = true → pickIfDue z s = s) ∧
      (r.airing = none → r.fallbackShown = false → written (fallbackOf (s.zoneCfg z)) (pickIfDue z s)))

/-- R156: for a cue of contract `k` and category `cat` that entered PLAYING in composition `n`, a rotation
zone whose current content carries an airing of another contract of that category has that content replaced
at once, with start frame `n` and its pending content left: by the fallback when the airing is already
ending, otherwise by a new pick or the fallback. The pick never takes another contract of that category.
Every other zone is left. -/
def Sys2Proof.Machine.CueStartsCutConflicts : Prop :=
  ∀ (n : Seq) (k : ContractId) (cat : Nat) (s : State) (z : ZoneId) (r : RotZone) (shown : AiringRef),
    s.rot.zones[z] = some r → (s.zones[z]).current.airing = some shown →
    let t := conflictZone n k cat s z
    (shown.contract = k ∨ (s.exu.contracts[shown.contract]).category ≠ cat → t = s) ∧
    (shown.contract ≠ k → (s.exu.contracts[shown.contract]).category = cat →
      (t.zones[z]).start = n ∧ (t.zones[z]).pending = (s.zones[z]).pending ∧
      (∀ y : ZoneId, y ≠ z → t.zones[y] = s.zones[y]) ∧
      (s.isMain z = true → (t.zones[z]).stack.rotation = (t.zones[z]).current) ∧
      ((∃ a ∈ r.ending, a.id = shown.id) → (t.zones[z]).current = fallbackOf (s.zoneCfg z) ∧ t.airing z = s.airing z) ∧
      ((∀ a ∈ r.ending, a.id ≠ shown.id) →
        (∀ a, t.airing z = some a →
          (t.zones[z]).current = .asset a.asset a.level (some ⟨a.id, a.contract⟩) false ∧
          (cat ≠ 0 → (s.exu.contracts[k]).category = cat →
            a.contract = k ∨ (s.exu.contracts[a.contract]).category ≠ cat)) ∧
        (t.airing z = none → (t.zones[z]).current = fallbackOf (s.zoneCfg z)) ∧
        ∀ a, r.airing = some a → (t.rot.zones[z]).map (·.ending) =
          some (r.ending ++ [{ a with phase := .ending, cut := some .cue }])))

/-- R148, R151 to R154, R156: the inserts a trigger event queues, what the picks take and write, the cuts a
cue's start makes, and the rows that run them: the last clip query (R59) and the composition's end (R150;
log entry 67). -/
def Obligations.TriggerEventQueuesInserts : Prop :=
  TriggerEventQueuesTheSpot ∧ EligibilityTests ∧ PickTakesTheFirstEligible ∧ PicksWriteTheirContent ∧
    CueStartsCutConflicts ∧ AdvanceEndsWithPassesAndCopies ∧ RotationStepCountsThenPicks

/-- R161: the credit of a qualifying entry of visible count v at level l, from the remainder r: with n = r +
v × l, earned rises by floor(n / 255) and the remainder becomes n mod 255, so nothing is lost; where earned
would pass 4,294,967,295 it stays there and the remainder as it was. The credit never exceeds v. An OPEN
contract whose earned reaches the target is MET; a CLOSED or MET one stays. -/
def Obligations.CreditKeepsTheRemainderLaw : Prop :=
  ∀ (k : Contract) (v lv : Nat),
    let n := k.remainder + v * lv
    let k' := (k.credit v lv).1
    (k.credit v lv).2 = n / 255 ∧
    (k.remainder ≤ 254 → lv ≤ 255 → (k.credit v lv).2 ≤ v) ∧
    (k.earned + n / 255 ≤ 4294967295 → k.earned ≠ 4294967295 →
      k'.earned = k.earned + n / 255 ∧ k'.remainder = n % 255 ∧
        255 * k'.earned + k'.remainder = 255 * k.earned + k.remainder + v * lv) ∧
    (4294967295 < k.earned + n / 255 ∨ k.earned = 4294967295 →
      k'.earned = 4294967295 ∧ k'.remainder = k.remainder) ∧
    (k.state = .opened → k'.state = if k'.target ≤ k'.earned then .met else .opened) ∧
    (k.state ≠ .opened → k'.state = k.state) ∧ k'.target = k.target ∧ k'.refs = k.refs

/-- R167, R192: READ_LOG of n outside 1 to 16 is answered RANGE; otherwise the n oldest entries, or all of
fewer, leave the log; the reply carries their number, the number left and the log-lost count, in 5 bytes, and
the entries, oldest first; the count is then 0. -/
def Sys2Proof.Machine.OldestEntriesAreRead : Prop :=
  ∀ (s : State) (l : Link) (p : List Byte), p.length = 1 →
    let n := byteAt p 0
    let taken := s.exu.log.take n
    (n < 1 ∨ 16 < n → Refuses (.readLog l) l 90 p s .range) ∧
    (1 ≤ n → n ≤ 16 → Answers (.readLog l) l 90 p s
      { s with exu := { s.exu with log := s.exu.log.drop n, logLost := 0 } } .ok
      (.bytes (field 1 taken.length ++ field 2 (s.exu.log.length - n) ++ field 2 s.exu.logLost ++
        taken.flatMap LogEntry.bytes)))

/-- R192: an airing log entry, 31 bytes: id, contract, zone, source (0 RING, 1 MAKEGOOD, 2 INSERT, 3 CUE),
outcome (0 COMPLETE, 1 CUT, 2 ATTRIBUTION), flags (bit 0 make-good queued, bit 1 closed by restart), first and
last frame seq, duration, frames composed, delivered and nominal. The reply's numbers stand before the
entries: taken, left, log-lost count. -/
def Sys2Proof.Machine.LogEntryIsLaidOut : Prop :=
  (∀ e : LogEntry,
    let source := match e.source with
      | .ring => 0
      | .makegood => 1
      | .insert => 2
      | .cue => 3
    let outcome := match e.outcome with
      | .complete => 0
      | .cut => 1
      | .attribution => 2
    let flags := match e.restart, e.queued with
      | false, false => 0
      | false, true => 1
      | true, false => 2
      | true, true => 3
    LaidOut e.bytes 31
      [(0, 4, e.id), (4, 1, e.contract.val), (5, 1, e.zone.val), (6, 1, source), (7, 1, outcome), (8, 1, flags),
        (9, 4, e.first.toNat), (13, 4, e.last.toNat), (17, 2, e.duration), (19, 4, e.frames), (23, 4, e.delivered),
        (27, 4, e.nominal)]) ∧
  ∀ taken left lost : Nat, LaidOut (field 1 taken ++ field 2 left ++ field 2 lost) 5 [(0, 1, taken), (1, 2, left), (3, 2, lost)]

/-- READ_LOG (R167) and the bytes of its reply (R192). -/
def Obligations.ReadLogTakesTheOldest : Prop :=
  OldestEntriesAreRead ∧ LogEntryIsLaidOut

/-! ## Feed monitoring (section 11) -/

/-- R174: the end of a conversion adds the channel's calibrated value, from the first A samples, to the
values the scan holds; no last value changes yet. Samples of fewer than A or beyond 12 bits are no event
(log entry 45). -/
def Obligations.ConversionHoldsTheCalibratedValue : Prop :=
  ∀ (s : State) (samples : List Nat) (i : ChannelId) (todo : List ChannelId) (values : List (ChannelId × Nat)),
    s.fmn.scan = some { todo := i :: todo, values := values } →
    (s.fmn.average ≤ samples.length → (∀ v ∈ samples, v ≤ 4095) →
      exec (.channelConversionEnd samples) s = .next { s with fmn := { s.fmn with scan := some { todo := todo, values :=
        values ++ [(i, (samples.take s.fmn.average).sum / s.fmn.average * (s.fmn.channels[i]).calibration / 1024)] } } }) ∧
    (samples.length < s.fmn.average ∨ (∃ v ∈ samples, 4095 < v) → exec (.channelConversionEnd samples) s = .next s)

/-- R174 to R176: at the completion of a scan the held values become the channels' last values together and
every feed not TRIPPED is judged: over its current trip threshold, or below trip-under for the second scan
running, it goes TRIPPED with derate d_min, its runs 0 and its line deasserted. A feed that no trip test
passes, a first reading below trip-under included, is classed: a stressing scan that completes n_stress
steps the derate down, to d_min at least, and a relieving one that completes n_relief steps it up, to 256 at
most; one that completes none lengthens its run, and a neutral scan clears both; the trip-under run is 1
after a reading below trip-under and 0 otherwise. A TRIPPED feed is left. The row DERATE_STEP is such a
completion (log entry 2). -/
def Sys2Proof.Machine.FeedsAreJudged : Prop :=
  ∀ (s : State) (values : List (ChannelId × Nat)), s.fmn.scan = some { todo := [], values := values } →
    (values.map (·.1)).Nodup →
    (Leaves .monitorScanComplete s fun t =>
      t.fmn.scan = none ∧ (∀ e ∈ values, (t.fmn.channels[e.1]).last = some e.2) ∧
      (∀ i : FeedId,
        let f := s.fmn.feeds[i]
        let high := (t.fmn.channels[currentOf i]).overTrip = true
        let low := (t.fmn.channels[voltageOf i]).underTrip = true
        (f.tripped = true → t.fmn.feeds[i] = f) ∧
        (f.tripped = false → high ∨ (low ∧ f.tripRun = 1) →
          t.fmn.feeds[i] = { f with tripped := true, derate := f.dMin, stressRun := 0, reliefRun := 0, tripRun := 0 } ∧
          t.osu.feedLines[i] = false) ∧
        (f.tripped = false → ¬(high ∨ (low ∧ f.tripRun = 1)) →
          let run := if low then 1 else 0
          t.osu.feedLines[i] = s.osu.feedLines[i] ∧
          (scanClassOf t i = .stressing →
            (f.nStress ≤ f.stressRun + 1 → t.fmn.feeds[i] =
              { f with tripRun := run, stressRun := 0, reliefRun := 0, derate := max (f.derate - f.step) f.dMin }) ∧
            (f.stressRun + 1 < f.nStress → t.fmn.feeds[i] =
              { f with tripRun := run, stressRun := f.stressRun + 1, reliefRun := 0 })) ∧
          (scanClassOf t i = .relieving →
            (f.nRelief ≤ f.reliefRun + 1 → t.fmn.feeds[i] =
              { f with tripRun := run, stressRun := 0, reliefRun := 0, derate := min (f.derate + f.step) 256 }) ∧
            (f.reliefRun + 1 < f.nRelief → t.fmn.feeds[i] =
              { f with tripRun := run, stressRun := 0, reliefRun := f.reliefRun + 1 })) ∧
          (scanClassOf t i = .neutral → t.fmn.feeds[i] = { f with tripRun := run, stressRun := 0, reliefRun := 0 }))) ∧
      t.zones = s.zones ∧ t.csu = s.csu ∧ t.osu.seq = s.osu.seq) ∧
    ∀ i : FeedId, stepDue s { todo := [], values := values } i = true →
      exec (.derateStep i) s = exec .monitorScanComplete s ∧
      Leaves (.derateStep i) s fun t => t.fmn.scan = none ∧ (t.fmn.feeds[i]).tripped = false

/-- R175, R176: the trip tests and the class of a scan by the last values of enabled channels: over trip,
below trip-under; stressing above high or below sag; otherwise relieving where the current channel is
disabled or below low and the voltage channel is disabled or above recover; otherwise neutral. A current
channel's thresholds are those of its range in effect. -/
def Sys2Proof.Machine.ThresholdsClassAScan : Prop :=
  ∀ (s : State) (i : FeedId) (lo hi : RangeSet) (cal under sag recover : Nat),
    let c := s.fmn.channels[currentOf i]
    let v := s.fmn.channels[voltageOf i]
    c.setting = .current lo hi → v.setting = .voltage cal under sag recover →
    let set := if c.effect = .low then lo else hi
    let current := fun test : Nat → Prop => c.enabled = true ∧ ∃ x, c.last = some x ∧ test x
    let voltage := fun test : Nat → Prop => v.enabled = true ∧ ∃ x, v.last = some x ∧ test x
    let stressing := current (set.high < ·) ∨ voltage (· < sag)
    let relieving := (c.enabled = false ∨ current (· < set.low)) ∧ (v.enabled = false ∨ voltage (recover < ·))
    (c.overTrip = true ↔ current (set.trip < ·)) ∧ (v.underTrip = true ↔ voltage (· < under)) ∧
    (scanClassOf s i = .stressing ↔ stressing) ∧ (scanClassOf s i = .relieving ↔ ¬stressing ∧ relieving) ∧
    (scanClassOf s i = .neutral ↔ ¬stressing ∧ ¬relieving)

/-- R178: a completion judges the feeds by rising number; each trip, each step that changes the derate, and
each release hands LC one FEED_STATE with the feed, its new state and derate, its effective budget, the
cause, the two last values and the frame sequence counter; a feed that stays as it was hands none. That of a
release, whose trip limits are those of log entry 68, precedes the reply (R15 leaves either order: the
model's choice, log entry 55). -/
def Sys2Proof.Machine.FeedChangesAreTold : Prop :=
  let stateOf := fun f : Feed =>
    if f.tripped then FeedState.tripped else if f.derate = 256 then .normal else .derated
  let told := fun (i : FeedId) (cause : FeedCause) (s t : State) => t.links =
    (notify (.feedState i (stateOf t.fmn.feeds[i]) (t.fmn.feeds[i]).derate
      ((t.fmn.feeds[i]).budget * (t.fmn.feeds[i]).derate / 256) cause (s.fmn.channels[currentOf i]).last
      (s.fmn.channels[voltageOf i]).last s.osu.seq) s).links
  (∀ (s : State) (values : List (ChannelId × Nat)), s.fmn.scan = some { todo := [], values := values } →
    (values.map (·.1)).Nodup → ∃ u : State, u = { s with fmn := { s.fmn with scan := none, channels := u.fmn.channels } } ∧
      (∀ e ∈ values, u.fmn.channels[e.1] = { s.fmn.channels[e.1] with last := some e.2 }) ∧
      (∀ j, j ∉ values.map (·.1) → u.fmn.channels[j] = s.fmn.channels[j]) ∧
      exec .monitorScanComplete s = .next ((allFin 4).foldl judgeFeed u)) ∧
  (∀ (s : State) (i : FeedId),
    let f := s.fmn.feeds[i]
    let t := judgeFeed s i
    let g := t.fmn.feeds[i]
    let high := (s.fmn.channels[currentOf i]).overTrip = true
    let low := (s.fmn.channels[voltageOf i]).underTrip = true ∧ f.tripRun = 1
    (f.tripped = true → t = s) ∧
    (f.tripped = false →
      (high → told i .tripCurrent s t) ∧ (¬high → low → told i .tripVoltage s t) ∧
      (¬high → ¬low →
        (g.derate = f.derate → t.links = s.links) ∧
        (g.derate ≠ f.derate → scanClassOf s i = .stressing → told i .stress s t) ∧
        (g.derate ≠ f.derate → scanClassOf s i = .relieving → told i .relief s t) ∧
        (scanClassOf s i = .neutral → g.derate = f.derate)))) ∧
  ∀ (s : State) (l : Link) (p : List Byte) (i : FeedId), p.length = 1 → byteAt p 0 = i.val →
    (s.fmn.feeds[i]).tripped = true →
    let clear := fun (c : Channel) (past : Bool) => c.enabled = false ∨ c.last ≠ none ∧ past = false
    clear s.fmn.channels[currentOf i] (s.fmn.channels[currentOf i]).overTrip →
    clear s.fmn.channels[voltageOf i] (s.fmn.channels[voltageOf i]).underTrip →
    AnswersWith (.releaseFeed l) l 100 p s .ok
      (.feed (if (s.fmn.feeds[i]).derate = 256 then .normal else .derated) (s.fmn.feeds[i]).derate) (told i .release s)

/-- What a scan completion makes of the feeds, by which thresholds, and the FEED_STATE notices (R174 to
R176, R178; log entries 2, 55 and 68). -/
def Obligations.ScanCompletionJudgesFeeds : Prop :=
  FeedsAreJudged ∧ ThresholdsClassAScan ∧ FeedChangesAreTold

/-- R171, R177: SET_RANGE writes the selected range of a current channel and replies with it and the range
in effect, a range code above 1 is answered RANGE. RELEASE_FEED is answered STATE for a feed not TRIPPED and
for one an enabled channel of which has no last value or is still past its trip limit (that of the range in
effect also before the first scan in it has completed, the model's choice: log entry 68); otherwise the feed
leaves TRIPPED with its derate and, in RUN, its line is asserted. -/
def Obligations.SetRangeAndReleaseFeed : Prop :=
  ∀ (s : State) (l : Link) (p : List Byte) (i : FeedId), byteAt p 0 = i.val →
    (p.length = 2 →
      (1 < byteAt p 1 → Refuses (.setRange l) l 99 p s .range) ∧
      ∀ r, rangeOf (byteAt p 1) = some r → Answers (.setRange l) l 99 p s
        { s with fmn := { s.fmn with channels := upd s.fmn.channels (currentOf i) fun c => { c with selected := r } } }
        .ok (.ranges r (s.fmn.channels[currentOf i]).effect)) ∧
    (p.length = 1 →
      let clear := fun (c : Channel) (past : Bool) => c.enabled = false ∨ c.last ≠ none ∧ past = false
      let mayRelease := (s.fmn.feeds[i]).tripped = true ∧
        clear s.fmn.channels[currentOf i] (s.fmn.channels[currentOf i]).overTrip ∧
        clear s.fmn.channels[voltageOf i] (s.fmn.channels[voltageOf i]).underTrip
      let st := if (s.fmn.feeds[i]).derate = 256 then FeedState.normal else .derated
      (¬mayRelease → Refuses (.releaseFeed l) l 100 p s .state) ∧
      (mayRelease → AnswersWith (.releaseFeed l) l 100 p s .ok (.feed st (s.fmn.feeds[i]).derate) fun t =>
        t.fmn = { s.fmn with feeds := upd s.fmn.feeds i fun f => { f with tripped := false } } ∧
        t.osu = { s.osu with feedLines := upd s.osu.feedLines i fun _ => s.inRun } ∧ t.zones = s.zones ∧
        t.csu = s.csu ∧ t.exu = s.exu))

/-! ## The image write and the warm restart (sections 12.3 and 12.4) -/

/-- R188: WRITE_IMAGE_BEGIN opens a write of 64 to 8,388,608 bytes (RANGE outside, STATE while one is in
flight), and its replies, but for FORM and RANGE, carry the start-up state and the fault record;
WRITE_IMAGE_DATA of the writer at the next offset is appended, another offset or data past the length is
answered FORM, and both return the idle time to 0. -/
def Sys2Proof.Machine.ImageWriteStagesTheData : Prop :=
  ∀ (s : State) (l : Link) (p : List Byte),
    let staged := fun (g : Staging) => { s with cfl := { s.cfl with staging := g } }
    (p.length = 4 →
      (word p 0 < 64 ∨ 8388608 < word p 0 → Refuses (.writeImageBegin l) l 113 p s .range) ∧
      (64 ≤ word p 0 → word p 0 ≤ 8388608 →
        (s.cfl.staging ≠ .idle → Answers (.writeImageBegin l) l 113 p s s .state
          (.startStatus s.cfl.startup s.cfl.fault)) ∧
        (s.cfl.staging = .idle → Answers (.writeImageBegin l) l 113 p s (staged (.receiving l (word p 0) [] 0)) .ok
          (.startStatus s.cfl.startup s.cfl.fault)))) ∧
    (5 ≤ p.length → p.length ≤ 1022 →
      ((∀ n d t, s.cfl.staging ≠ .receiving l n d t) → Refuses (.writeImageData l) l 114 p s .state) ∧
      ∀ n d t, s.cfl.staging = .receiving l n d t →
        (word p 0 ≠ d.length ∨ n < d.length + (p.length - 4) →
          Answers (.writeImageData l) l 114 p s (staged (.receiving l n d 0)) .form .empty) ∧
        (word p 0 = d.length → d.length + (p.length - 4) ≤ n →
          Answers (.writeImageData l) l 114 p s (staged (.receiving l n (d ++ p.drop 4) 0)) .ok
            (.bytesReceived (d.length + (p.length - 4)))))

/-- R188: WRITE_IMAGE_END of the writer, with no restart pending: when all bytes announced are received, the
header gives that length and passes checks 1 to 4, the staging goes to PROGRAMMING and the request stays
executing; otherwise it is answered FORM and the staging is IDLE. The end of programming makes the staging
IDLE, leaves the staged bytes (or, after VERIFY_FAILED, an incomplete image) in the region, and answers the
writer's request, its reply discarded where its link has ended (R8). (What values the bytes of a section spell
is free: log entry 8.) -/
def Sys2Proof.Machine.ImageWriteIsProgrammed : Prop :=
  ∀ (s : State) (l : Link) (n : Nat) (d : List Byte) (t : Nat) (r : Request) (o : Bool),
    s.request l = some (r, o) → r.code.toNat = 115 →
    let staged := fun (g : Staging) (f : Flash) => { s with cfl := { s.cfl with staging := g, flash := f } }
    (r.payload = [] → s.cfl.staging = .receiving l n d t →
      (s.restartPending = true → Refuses (.writeImageEnd l) l 115 [] s .state) ∧
      (s.restartPending = false → d.length = n → headerLength d = n → headerFault d = none →
        exec (.writeImageEnd l) s = .next (staged (.programming l d) s.cfl.flash)) ∧
      (s.restartPending = false → d.length ≠ n ∨ headerLength d ≠ n ∨ headerFault d ≠ none →
        Answers (.writeImageEnd l) l 115 [] s (staged .idle s.cfl.flash) .form .empty)) ∧
    (s.cfl.staging = .programming l d →
      exec (.flashProgrammingComplete .programmed) s = .next (finish l r o
        ⟨staged .idle (.holds d), .ok, .programmed .programmed⟩) ∧
      exec (.flashProgrammingComplete .verifyFailed) s = .next (finish l r o
        ⟨staged .idle .incomplete, .ok, .programmed .verifyFailed⟩))

/-- R188: a WRITE_IMAGE_END from a link that is not the writer, or with no write RECEIVING, is answered STATE
and changes nothing. (That one of wrong length is answered FORM there, as O13 says, is the model's choice: log
entry 73.) The request whose image is being programmed goes on executing, with no reply. -/
def Sys2Proof.Machine.ImageEndOfOthersIsRefused : Prop :=
  ∀ (s : State) (l : Link),
    (s.programming l = false → (∀ n d t, s.cfl.staging ≠ .receiving l n d t) →
      Refuses (.writeImageEnd l) l 115 [] s .state) ∧
    ∀ d, s.cfl.staging = .programming l d → exec (.writeImageEnd l) s = .next s

/-- The image write from its staging to the end of programming (R188; log entries 8 and 73). -/
def Obligations.ImageWrite : Prop :=
  ImageWriteStagesTheData ∧ ImageWriteIsProgrammed ∧ ImageEndOfOthersIsRefused

/-- R17, R189: RESTART is answered STATE while an image is programmed, otherwise OK; the warm restart begins
when that reply has been sent (the row WARM_RESTART_BEGIN, with that reply the frame being sent, as at
TRANSMIT_FRAME_SENT: log entry 26) or lost (`RestartLostWithItsLink`). It leaves RUN or SAFE for
CONFIG_READ: every link DOWN with empty queues and without its executing request (log entry 43), the feed
lines deasserted, the open records closed, a RECEIVING write discarded; the frame sequence counter, the
clocks, the score, the trigger table, the credited-through number, the emergency state and the TRIPPED feeds
are kept. -/
def Sys2Proof.Machine.RestartRuns : Prop :=
  (∀ (s : State) (l : Link) (r : Request) (o : Bool), s.request l = some (r, o) → r.code.toNat = 112 → r.payload = [] →
    (∀ w d, s.cfl.staging = .programming w d → Refuses (.restart l) l 112 [] s .state) ∧
    ((∀ w d, s.cfl.staging ≠ .programming w d) → o = false →
      exec (.restart l) s = .next (finish l r false ⟨s, .ok, .empty⟩)) ∧
    ((∀ w d, s.cfl.staging ≠ .programming w d) → o = true →
      Leaves (.restart l) s fun t => t.cfl.startup = .configRead ∧ t.cfl.restarting = true)) ∧
  ∀ (s : State) (k : Link) (f : TxFrame) (rest : List TxFrame), s.serving = true → (s.links[k]).mode ≠ .down →
    (s.links[k]).tx = f :: rest → f.restarts = true → exec .warmRestartBegin s = exec (.transmitFrameSent k) s ∧
    Leaves .warmRestartBegin s fun t =>
    t.cfl.startup = .configRead ∧ t.cfl.restarting = true ∧ t.cfl.residentsLoaded = s.cfl.residentsLoaded ∧
    (∀ l : Link, t.links[l] = LinkState.reset) ∧ (∀ i : FeedId, t.osu.feedLines[i] = false) ∧
    t.osu.scanning = none ∧ t.osu.built = none ∧ t.osu.seq = s.osu.seq ∧ t.cmp.comp.phase = .idle ∧
    (∀ w n d k, t.cfl.staging ≠ .receiving w n d k) ∧
    t.csu.clocks = s.csu.clocks ∧ t.csu.score = s.csu.score ∧ t.csu.capture = s.csu.capture ∧ t.csu.hornTime = 0 ∧
    t.cqs.queue = [] ∧ t.cqs.slots = [] ∧ t.cqs.streamUp = false ∧ t.cqs.violation = s.cqs.violation ∧
    t.cqs.discards = s.cqs.discards ∧ t.mse.queue = [] ∧ t.mse.display = none ∧
    t.mse.emergency = s.mse.emergency ∧ t.rot.ring = [] ∧ t.rot.insert = [] ∧ t.rot.makegood = [] ∧
    t.rot.triggers = s.rot.triggers ∧ t.rot.nextAiring = s.rot.nextAiring ∧ t.exu.records = [] ∧
    t.exu.creditedThrough = s.exu.creditedThrough ∧
    ∀ i : FeedId, (t.fmn.feeds[i]).tripped = (s.fmn.feeds[i]).tripped

/-- R168: a mark flagged as closed by restart closes its key's record at once, opened with delivered 0 if there
is none. No make-good is sent, and the log entry has its restart flag set and no make-good queued, the oldest
of 256 being pushed out and counted (R166). An airing's contract reference is given back; a cue's record gives
back one that it holds and takes none. -/
def Sys2Proof.Machine.RestartMarkClosesAtOnce : Prop :=
  (∀ (m : Mark) (s : State), takeRestartMark m s = closeRecord true ((s.openRecord m.key).getD
    { key := m.key, contract := m.contract, delivered := 0, mark := none, holdsRef := false }) m s) ∧
  ∀ (r : OpenRecord) (m : Mark) (s : State),
    let t := closeRecord true r m s
    let entry : LogEntry :=
      { id := match m.key with
          | .airing id => id.toNat
          | .cue id _ => id
        contract := m.contract, zone := m.zone, source := m.source, first := m.first, last := m.last,
        duration := m.duration, frames := m.frames, delivered := r.delivered, nominal := m.area * m.duration,
        outcome := m.outcome, queued := false, restart := true }
    let gives := match m.key with
      | .airing _ => true
      | .cue _ _ => r.holdsRef
    t = { s with links := t.links, exu := t.exu } ∧
    t.exu = { s.exu with
      log := (if 256 ≤ s.exu.log.length then s.exu.log.tail else s.exu.log) ++ [entry]
      logLost := if 256 ≤ s.exu.log.length ∧ s.exu.logLost < 65535 then s.exu.logLost + 1 else s.exu.logLost
      records := s.exu.records.filter (·.key != r.key)
      contracts := if gives then upd s.exu.contracts m.contract fun k => { k with refs := k.refs - 1 }
        else s.exu.contracts }

/-- R158: at a warm restart an airing with frames composed hands EXU a mark with outcome CUT flagged as closed
by restart, its last frame the last counted one; one with no counted frame is withdrawn and gives both
references back. R123: a cue that was PLAYING, holds its attribution and was listed hands a mark so too, and
the attribution's reference is given back. -/
def Sys2Proof.Machine.RestartHandsItsMarks : Prop :=
  (∀ (z : ZoneId) (a : Airing) (s : State),
    (a.frames = 0 → restartAiring z s a = giveContract a.contract (giveAsset a.asset s)) ∧
    (0 < a.frames → restartAiring z s a = takeRestartMark (airingMark s z .cut a) s)) ∧
  ∀ (q : Cue) (s : State),
    (q.attribution = none → restartCue s q = s) ∧
    ∀ c, q.attribution = some c →
      (∀ first last, q.firstListed = some first → q.lastListed = some last → 0 < q.listed →
        restartCue s q = giveContract c (takeRestartMark (cueMark q c first last) s)) ∧
      (q.firstListed = none ∨ q.lastListed = none ∨ q.listed = 0 → restartCue s q = giveContract c s)

/-- R123, R158, R169: what a warm restart makes of all that is open. Each airing with frames composed and each
cue with a closing mark is closed as by restart (`RestartHandsItsMarks`), then each open record that still
waited with a mark of its own. Each stands in the log, with its restart flag set, with what its record had been
delivered and without a make-good, the oldest entries beyond 256 being pushed out and counted. Every contract
keeps its earned, remainder, state and terms, and gets back one reference for each airing, closed or
withdrawn, each entry of the ring, the make-good and the insert queue, each attribution held by a cue, and
each reference a closed cue record held. (The order of the marks, ending airings before the airing, zone by
zone, then the cues, is the model's choice: log entry 30; that of the waiting records, which close in order of
opening, too: log entry 61.) The premises: no two marks of one key, and a log within its bound. -/
def Sys2Proof.Machine.RestartClosesWhatIsOpen : Prop :=
  ∀ (s : State) (k : Link) (f : TxFrame) (rest : List TxFrame), s.serving = true → (s.links[k]).mode ≠ .down →
    (s.links[k]).tx = f :: rest → f.restarts = true →
    let airings := fun (z : ZoneId) => match s.rot.zones[z] with
      | some r => r.ending ++ r.airing.toList
      | none => []
    let composed := (allFin 16).flatMap fun z => ((airings z).filter (0 < ·.frames)).map (airingMark s z .cut)
    let withdrawn := (allFin 16).flatMap fun z => ((airings z).filter (·.frames = 0)).map (·.contract)
    let attributed := s.cqs.queue.filterMap fun q => match q.attribution, q.firstListed, q.lastListed with
      | some c, some first, some last => if 0 < q.listed then some (cueMark q c first last) else none
      | _, _, _ => none
    let marks := composed ++ attributed
    let waiting := (s.exu.records.filter fun r => r.key ∉ marks.map (·.key)).filterMap fun r =>
      r.mark.map fun m => (r, m)
    let closed := marks.map (fun m => ((s.openRecord m.key).getD
      { key := m.key, contract := m.contract, delivered := 0, mark := none, holdsRef := false }, m)) ++ waiting
    let named := s.rot.ring.map (·.contract) ++ s.rot.makegood.map (·.contract) ++ s.rot.insert.map (·.contract)
    let returned := withdrawn ++ closed.filterMap (fun e => match e.2.key with
      | .airing _ => some e.2.contract
      | .cue _ _ => if e.1.holdsRef then some e.2.contract else none) ++ named ++ s.cqs.queue.filterMap (·.attribution)
    (marks.map (·.key)).Nodup → s.exu.log.length ≤ 256 → Leaves .warmRestartBegin s fun t =>
      let log := s.exu.log ++ closed.map fun e => logEntryOf true false e.1 e.2
      t.exu.log = log.drop (log.length - 256) ∧
      t.exu.logLost = max s.exu.logLost (min 65535 (s.exu.logLost + (log.length - 256))) ∧
      ∀ c : ContractId, t.exu.contracts[c] =
        { s.exu.contracts[c] with refs := (s.exu.contracts[c]).refs - returned.count c }

/-- RESTART, and the warm restart that its OK reply begins, sent or lost with its link (R17, R189; log
entries 26, 43 and 48); what it makes of open airings, attributions and records (R123, R158, R168, R169; log
entries 30 and 61). -/
def Obligations.RestartBeginsTheWarmRestart : Prop :=
  RestartRuns ∧ RestartLostWithItsLink ∧ RestartMarkClosesAtOnce ∧ RestartHandsItsMarks ∧ RestartClosesWhatIsOpen
end

