-- ==== Sys2Proof/Laws/State.lean ====
section
/-! SUPPORT. What each named update of the state writes, and that it leaves every other field: one rule per field and
update, so that no proof unfolds a record update. -/

namespace Sys2Proof.Machine

/-! ## Entries of a vector -/

@[simp] theorem upd_same {α : Type} {n : Nat} (v : Vector α n) (i : Fin n) (f : α → α) : (upd v i f)[i] = f v[i] := by
  simp [upd]

theorem upd_other {α : Type} {n : Nat} (v : Vector α n) (i j : Fin n) (f : α → α) (h : i ≠ j) :
    (upd v i f)[j] = v[j] := by
  have h : i.val ≠ j.val := fun e => h (Fin.ext e)
  simp [upd, h]

@[simp] theorem upd_same_val {α : Type} {n : Nat} (v : Vector α n) (i : Fin n) (f : α → α) (h : i.val < n) :
    (upd v i f)[i.val]'h = f (v[i.val]'h) := by
  simp [upd]

theorem upd_other_val {α : Type} {n : Nat} (v : Vector α n) (i : Fin n) (j : Nat) (f : α → α) (h : i.val ≠ j)
    (hj : j < n) : (upd v i f)[j]'hj = v[j]'hj := by
  simp [upd, h]

/-- Two changes of one entry are the same update when they agree on that entry. -/
theorem upd_congr {α : Type} {n : Nat} (v : Vector α n) (i : Fin n) (f g : α → α) (h : f v[i] = g v[i]) :
    upd v i f = upd v i g := by
  simp only [upd, h]

/-! ## The field an update writes -/

@[simp] theorem modLink_links (s : State) (l : Link) (f : LinkState → LinkState) :
    (s.modLink l f).links = upd s.links l f := rfl

@[simp] theorem modZone_zones (s : State) (z : ZoneId) (f : ZoneRun → ZoneRun) :
    (s.modZone z f).zones = upd s.zones z f := rfl

@[simp] theorem modClock_clocks (s : State) (c : ClockId) (f : ClockRec → ClockRec) :
    (s.modClock c f).csu.clocks = upd s.csu.clocks c f := rfl

@[simp] theorem modContract_contracts (s : State) (c : ContractId) (f : Contract → Contract) :
    (s.modContract c f).exu.contracts = upd s.exu.contracts c f := rfl

@[simp] theorem modFeed_feeds (s : State) (i : FeedId) (f : Feed → Feed) :
    (s.modFeed i f).fmn.feeds = upd s.fmn.feeds i f := rfl

@[simp] theorem setFeedLine_lines (i : FeedId) (v : Bool) (s : State) :
    (setFeedLine i v s).osu.feedLines = upd s.osu.feedLines i fun _ => v := rfl

/-! ## The fields an update leaves -/

@[simp] theorem modLink_leaves (s : State) (l : Link) (f : LinkState → LinkState) :
    (s.modLink l f).cfl = s.cfl ∧ (s.modLink l f).osu = s.osu ∧ (s.modLink l f).zones = s.zones ∧
      (s.modLink l f).cmp = s.cmp ∧ (s.modLink l f).ast = s.ast ∧ (s.modLink l f).csu = s.csu ∧
      (s.modLink l f).cqs = s.cqs ∧ (s.modLink l f).mse = s.mse ∧ (s.modLink l f).rot = s.rot ∧
      (s.modLink l f).exu = s.exu ∧ (s.modLink l f).fmn = s.fmn ∧ (s.modLink l f).freeCount = s.freeCount ∧
      (s.modLink l f).pending = s.pending :=
  ⟨rfl, rfl, rfl, rfl, rfl, rfl, rfl, rfl, rfl, rfl, rfl, rfl, rfl⟩

@[simp] theorem modZone_leaves (s : State) (z : ZoneId) (f : ZoneRun → ZoneRun) :
    (s.modZone z f).cfl = s.cfl ∧ (s.modZone z f).links = s.links ∧ (s.modZone z f).osu = s.osu ∧
      (s.modZone z f).cmp = s.cmp ∧ (s.modZone z f).ast = s.ast ∧ (s.modZone z f).csu = s.csu ∧
      (s.modZone z f).cqs = s.cqs ∧ (s.modZone z f).mse = s.mse ∧ (s.modZone z f).rot = s.rot ∧
      (s.modZone z f).exu = s.exu ∧ (s.modZone z f).fmn = s.fmn ∧ (s.modZone z f).freeCount = s.freeCount ∧
      (s.modZone z f).pending = s.pending :=
  ⟨rfl, rfl, rfl, rfl, rfl, rfl, rfl, rfl, rfl, rfl, rfl, rfl, rfl⟩

@[simp] theorem modContract_leaves (s : State) (c : ContractId) (f : Contract → Contract) :
    (s.modContract c f).cfl = s.cfl ∧ (s.modContract c f).links = s.links ∧ (s.modContract c f).osu = s.osu ∧
      (s.modContract c f).zones = s.zones ∧ (s.modContract c f).cmp = s.cmp ∧ (s.modContract c f).ast = s.ast ∧
      (s.modContract c f).csu = s.csu ∧ (s.modContract c f).cqs = s.cqs ∧ (s.modContract c f).mse = s.mse ∧
      (s.modContract c f).rot = s.rot ∧ (s.modContract c f).fmn = s.fmn ∧
      (s.modContract c f).freeCount = s.freeCount ∧ (s.modContract c f).pending = s.pending :=
  ⟨rfl, rfl, rfl, rfl, rfl, rfl, rfl, rfl, rfl, rfl, rfl, rfl, rfl⟩

@[simp] theorem modFeed_leaves (s : State) (i : FeedId) (f : Feed → Feed) :
    (s.modFeed i f).cfl = s.cfl ∧ (s.modFeed i f).links = s.links ∧ (s.modFeed i f).osu = s.osu ∧
      (s.modFeed i f).zones = s.zones ∧ (s.modFeed i f).cmp = s.cmp ∧ (s.modFeed i f).ast = s.ast ∧
      (s.modFeed i f).csu = s.csu ∧ (s.modFeed i f).cqs = s.cqs ∧ (s.modFeed i f).mse = s.mse ∧
      (s.modFeed i f).rot = s.rot ∧ (s.modFeed i f).exu = s.exu ∧ (s.modFeed i f).freeCount = s.freeCount ∧
      (s.modFeed i f).pending = s.pending :=
  ⟨rfl, rfl, rfl, rfl, rfl, rfl, rfl, rfl, rfl, rfl, rfl, rfl, rfl⟩

@[simp] theorem modChannel_leaves (s : State) (i : ChannelId) (f : Channel → Channel) :
    (s.modChannel i f).cfl = s.cfl ∧ (s.modChannel i f).links = s.links ∧ (s.modChannel i f).osu = s.osu ∧
      (s.modChannel i f).zones = s.zones ∧ (s.modChannel i f).cmp = s.cmp ∧ (s.modChannel i f).ast = s.ast ∧
      (s.modChannel i f).csu = s.csu ∧ (s.modChannel i f).cqs = s.cqs ∧ (s.modChannel i f).mse = s.mse ∧
      (s.modChannel i f).rot = s.rot ∧ (s.modChannel i f).exu = s.exu ∧ (s.modChannel i f).freeCount = s.freeCount ∧
      (s.modChannel i f).pending = s.pending :=
  ⟨rfl, rfl, rfl, rfl, rfl, rfl, rfl, rfl, rfl, rfl, rfl, rfl, rfl⟩

@[simp] theorem modClock_leaves (s : State) (c : ClockId) (f : ClockRec → ClockRec) :
    (s.modClock c f).cfl = s.cfl ∧ (s.modClock c f).links = s.links ∧ (s.modClock c f).osu = s.osu ∧
      (s.modClock c f).zones = s.zones ∧ (s.modClock c f).cmp = s.cmp ∧ (s.modClock c f).ast = s.ast ∧
      (s.modClock c f).cqs = s.cqs ∧ (s.modClock c f).mse = s.mse ∧ (s.modClock c f).rot = s.rot ∧
      (s.modClock c f).exu = s.exu ∧ (s.modClock c f).fmn = s.fmn ∧ (s.modClock c f).freeCount = s.freeCount ∧
      (s.modClock c f).pending = s.pending :=
  ⟨rfl, rfl, rfl, rfl, rfl, rfl, rfl, rfl, rfl, rfl, rfl, rfl, rfl⟩

@[simp] theorem modRotZone_leaves (s : State) (z : ZoneId) (f : RotZone → RotZone) :
    (s.modRotZone z f).cfl = s.cfl ∧ (s.modRotZone z f).links = s.links ∧ (s.modRotZone z f).osu = s.osu ∧
      (s.modRotZone z f).zones = s.zones ∧ (s.modRotZone z f).cmp = s.cmp ∧ (s.modRotZone z f).ast = s.ast ∧
      (s.modRotZone z f).csu = s.csu ∧ (s.modRotZone z f).cqs = s.cqs ∧ (s.modRotZone z f).mse = s.mse ∧
      (s.modRotZone z f).exu = s.exu ∧ (s.modRotZone z f).fmn = s.fmn ∧ (s.modRotZone z f).freeCount = s.freeCount ∧
      (s.modRotZone z f).pending = s.pending :=
  ⟨rfl, rfl, rfl, rfl, rfl, rfl, rfl, rfl, rfl, rfl, rfl, rfl, rfl⟩

@[simp] theorem modComp_leaves (s : State) (f : Composition → Composition) :
    (s.modComp f).cfl = s.cfl ∧ (s.modComp f).links = s.links ∧ (s.modComp f).osu = s.osu ∧
      (s.modComp f).zones = s.zones ∧ (s.modComp f).ast = s.ast ∧ (s.modComp f).csu = s.csu ∧
      (s.modComp f).cqs = s.cqs ∧ (s.modComp f).mse = s.mse ∧ (s.modComp f).rot = s.rot ∧ (s.modComp f).exu = s.exu ∧
      (s.modComp f).fmn = s.fmn ∧ (s.modComp f).freeCount = s.freeCount ∧ (s.modComp f).pending = s.pending :=
  ⟨rfl, rfl, rfl, rfl, rfl, rfl, rfl, rfl, rfl, rfl, rfl, rfl, rfl⟩

@[simp] theorem putAsset_leaves (s : State) (id : Nat) (r : AssetRec) :
    (s.putAsset id r).cfl = s.cfl ∧ (s.putAsset id r).links = s.links ∧ (s.putAsset id r).osu = s.osu ∧
      (s.putAsset id r).zones = s.zones ∧ (s.putAsset id r).cmp = s.cmp ∧ (s.putAsset id r).csu = s.csu ∧
      (s.putAsset id r).cqs = s.cqs ∧ (s.putAsset id r).mse = s.mse ∧ (s.putAsset id r).rot = s.rot ∧
      (s.putAsset id r).exu = s.exu ∧ (s.putAsset id r).fmn = s.fmn ∧ (s.putAsset id r).freeCount = s.freeCount ∧
      (s.putAsset id r).pending = s.pending :=
  ⟨rfl, rfl, rfl, rfl, rfl, rfl, rfl, rfl, rfl, rfl, rfl, rfl, rfl⟩

@[simp] theorem notify_leaves (n : Notice) (s : State) :
    (notify n s).cfl = s.cfl ∧ (notify n s).osu = s.osu ∧ (notify n s).zones = s.zones ∧ (notify n s).cmp = s.cmp ∧
      (notify n s).ast = s.ast ∧ (notify n s).csu = s.csu ∧ (notify n s).cqs = s.cqs ∧ (notify n s).mse = s.mse ∧
      (notify n s).rot = s.rot ∧ (notify n s).exu = s.exu ∧ (notify n s).fmn = s.fmn ∧
      (notify n s).freeCount = s.freeCount ∧ (notify n s).pending = s.pending :=
  ⟨rfl, rfl, rfl, rfl, rfl, rfl, rfl, rfl, rfl, rfl, rfl, rfl, rfl⟩

@[simp] theorem setFeedLine_leaves (i : FeedId) (v : Bool) (s : State) :
    (setFeedLine i v s).cfl = s.cfl ∧ (setFeedLine i v s).links = s.links ∧ (setFeedLine i v s).zones = s.zones ∧
      (setFeedLine i v s).cmp = s.cmp ∧ (setFeedLine i v s).ast = s.ast ∧ (setFeedLine i v s).csu = s.csu ∧
      (setFeedLine i v s).cqs = s.cqs ∧ (setFeedLine i v s).mse = s.mse ∧ (setFeedLine i v s).rot = s.rot ∧
      (setFeedLine i v s).exu = s.exu ∧ (setFeedLine i v s).fmn = s.fmn ∧
      (setFeedLine i v s).freeCount = s.freeCount ∧ (setFeedLine i v s).pending = s.pending :=
  ⟨rfl, rfl, rfl, rfl, rfl, rfl, rfl, rfl, rfl, rfl, rfl, rfl, rfl⟩

@[simp] theorem setQueue_leaves (q : List Message) (s : State) :
    (setQueue q s).cfl = s.cfl ∧ (setQueue q s).links = s.links ∧ (setQueue q s).osu = s.osu ∧
      (setQueue q s).zones = s.zones ∧ (setQueue q s).cmp = s.cmp ∧ (setQueue q s).ast = s.ast ∧
      (setQueue q s).csu = s.csu ∧ (setQueue q s).cqs = s.cqs ∧ (setQueue q s).rot = s.rot ∧
      (setQueue q s).exu = s.exu ∧ (setQueue q s).fmn = s.fmn ∧ (setQueue q s).freeCount = s.freeCount ∧
      (setQueue q s).pending = s.pending :=
  ⟨rfl, rfl, rfl, rfl, rfl, rfl, rfl, rfl, rfl, rfl, rfl, rfl, rfl⟩

@[simp] theorem setDisplay_leaves (d : Option Display) (s : State) :
    (setDisplay d s).cfl = s.cfl ∧ (setDisplay d s).links = s.links ∧ (setDisplay d s).osu = s.osu ∧
      (setDisplay d s).zones = s.zones ∧ (setDisplay d s).cmp = s.cmp ∧ (setDisplay d s).ast = s.ast ∧
      (setDisplay d s).csu = s.csu ∧ (setDisplay d s).cqs = s.cqs ∧ (setDisplay d s).rot = s.rot ∧
      (setDisplay d s).exu = s.exu ∧ (setDisplay d s).fmn = s.fmn ∧ (setDisplay d s).freeCount = s.freeCount ∧
      (setDisplay d s).pending = s.pending :=
  ⟨rfl, rfl, rfl, rfl, rfl, rfl, rfl, rfl, rfl, rfl, rfl, rfl, rfl⟩

@[simp] theorem setLane_leaves (z : ZoneId) (v : Option Nat) (s : State) :
    (setLane z v s).cfl = s.cfl ∧ (setLane z v s).links = s.links ∧ (setLane z v s).osu = s.osu ∧
      (setLane z v s).zones = s.zones ∧ (setLane z v s).cmp = s.cmp ∧ (setLane z v s).ast = s.ast ∧
      (setLane z v s).csu = s.csu ∧ (setLane z v s).mse = s.mse ∧ (setLane z v s).rot = s.rot ∧
      (setLane z v s).exu = s.exu ∧ (setLane z v s).fmn = s.fmn ∧ (setLane z v s).freeCount = s.freeCount ∧
      (setLane z v s).pending = s.pending :=
  ⟨rfl, rfl, rfl, rfl, rfl, rfl, rfl, rfl, rfl, rfl, rfl, rfl, rfl⟩

@[simp] theorem setStaging_leaves (g : Staging) (s : State) :
    (setStaging g s).links = s.links ∧ (setStaging g s).osu = s.osu ∧ (setStaging g s).zones = s.zones ∧
      (setStaging g s).cmp = s.cmp ∧ (setStaging g s).ast = s.ast ∧ (setStaging g s).csu = s.csu ∧
      (setStaging g s).cqs = s.cqs ∧ (setStaging g s).mse = s.mse ∧ (setStaging g s).rot = s.rot ∧
      (setStaging g s).exu = s.exu ∧ (setStaging g s).fmn = s.fmn ∧ (setStaging g s).freeCount = s.freeCount ∧
      (setStaging g s).pending = s.pending :=
  ⟨rfl, rfl, rfl, rfl, rfl, rfl, rfl, rfl, rfl, rfl, rfl, rfl, rfl⟩

@[simp] theorem modCue_leaves (id : Nat) (f : Cue → Cue) (s : State) :
    (modCue id f s).cfl = s.cfl ∧ (modCue id f s).links = s.links ∧ (modCue id f s).osu = s.osu ∧
      (modCue id f s).zones = s.zones ∧ (modCue id f s).cmp = s.cmp ∧ (modCue id f s).ast = s.ast ∧
      (modCue id f s).csu = s.csu ∧ (modCue id f s).mse = s.mse ∧ (modCue id f s).rot = s.rot ∧
      (modCue id f s).exu = s.exu ∧ (modCue id f s).fmn = s.fmn ∧ (modCue id f s).freeCount = s.freeCount ∧
      (modCue id f s).pending = s.pending :=
  ⟨rfl, rfl, rfl, rfl, rfl, rfl, rfl, rfl, rfl, rfl, rfl, rfl, rfl⟩

@[simp] theorem modRecord_leaves (k : RecordKey) (f : OpenRecord → OpenRecord) (s : State) :
    (modRecord k f s).cfl = s.cfl ∧ (modRecord k f s).links = s.links ∧ (modRecord k f s).osu = s.osu ∧
      (modRecord k f s).zones = s.zones ∧ (modRecord k f s).cmp = s.cmp ∧ (modRecord k f s).ast = s.ast ∧
      (modRecord k f s).csu = s.csu ∧ (modRecord k f s).cqs = s.cqs ∧ (modRecord k f s).mse = s.mse ∧
      (modRecord k f s).rot = s.rot ∧ (modRecord k f s).fmn = s.fmn ∧ (modRecord k f s).freeCount = s.freeCount ∧
      (modRecord k f s).pending = s.pending :=
  ⟨rfl, rfl, rfl, rfl, rfl, rfl, rfl, rfl, rfl, rfl, rfl, rfl, rfl⟩

@[simp] theorem removeRecord_leaves (k : RecordKey) (s : State) :
    (removeRecord k s).cfl = s.cfl ∧ (removeRecord k s).links = s.links ∧ (removeRecord k s).osu = s.osu ∧
      (removeRecord k s).zones = s.zones ∧ (removeRecord k s).cmp = s.cmp ∧ (removeRecord k s).ast = s.ast ∧
      (removeRecord k s).csu = s.csu ∧ (removeRecord k s).cqs = s.cqs ∧ (removeRecord k s).mse = s.mse ∧
      (removeRecord k s).rot = s.rot ∧ (removeRecord k s).fmn = s.fmn ∧ (removeRecord k s).freeCount = s.freeCount ∧
      (removeRecord k s).pending = s.pending :=
  ⟨rfl, rfl, rfl, rfl, rfl, rfl, rfl, rfl, rfl, rfl, rfl, rfl, rfl⟩

@[simp] theorem setTriggerAt_leaves (i : Fin 8) (t : Option Trigger) (s : State) :
    (setTriggerAt i t s).cfl = s.cfl ∧ (setTriggerAt i t s).links = s.links ∧ (setTriggerAt i t s).osu = s.osu ∧
      (setTriggerAt i t s).zones = s.zones ∧ (setTriggerAt i t s).cmp = s.cmp ∧ (setTriggerAt i t s).ast = s.ast ∧
      (setTriggerAt i t s).csu = s.csu ∧ (setTriggerAt i t s).cqs = s.cqs ∧ (setTriggerAt i t s).mse = s.mse ∧
      (setTriggerAt i t s).exu = s.exu ∧ (setTriggerAt i t s).fmn = s.fmn ∧
      (setTriggerAt i t s).freeCount = s.freeCount ∧ (setTriggerAt i t s).pending = s.pending :=
  ⟨rfl, rfl, rfl, rfl, rfl, rfl, rfl, rfl, rfl, rfl, rfl, rfl, rfl⟩

@[simp] theorem vacate_leaves (i : Nat) (s : State) :
    (vacate i s).cfl = s.cfl ∧ (vacate i s).links = s.links ∧ (vacate i s).osu = s.osu ∧
      (vacate i s).zones = s.zones ∧ (vacate i s).cmp = s.cmp ∧ (vacate i s).ast = s.ast ∧ (vacate i s).csu = s.csu ∧
      (vacate i s).mse = s.mse ∧ (vacate i s).rot = s.rot ∧ (vacate i s).exu = s.exu ∧ (vacate i s).fmn = s.fmn ∧
      (vacate i s).freeCount = s.freeCount ∧ (vacate i s).pending = s.pending :=
  ⟨rfl, rfl, rfl, rfl, rfl, rfl, rfl, rfl, rfl, rfl, rfl, rfl, rfl⟩

@[simp] theorem takeContract_leaves (c : ContractId) (s : State) :
    (takeContract c s).cfl = s.cfl ∧ (takeContract c s).links = s.links ∧ (takeContract c s).osu = s.osu ∧
      (takeContract c s).zones = s.zones ∧ (takeContract c s).cmp = s.cmp ∧ (takeContract c s).ast = s.ast ∧
      (takeContract c s).csu = s.csu ∧ (takeContract c s).cqs = s.cqs ∧ (takeContract c s).mse = s.mse ∧
      (takeContract c s).rot = s.rot ∧ (takeContract c s).fmn = s.fmn ∧ (takeContract c s).freeCount = s.freeCount ∧
      (takeContract c s).pending = s.pending :=
  ⟨rfl, rfl, rfl, rfl, rfl, rfl, rfl, rfl, rfl, rfl, rfl, rfl, rfl⟩

@[simp] theorem giveContract_leaves (c : ContractId) (s : State) :
    (giveContract c s).cfl = s.cfl ∧ (giveContract c s).links = s.links ∧ (giveContract c s).osu = s.osu ∧
      (giveContract c s).zones = s.zones ∧ (giveContract c s).cmp = s.cmp ∧ (giveContract c s).ast = s.ast ∧
      (giveContract c s).csu = s.csu ∧ (giveContract c s).cqs = s.cqs ∧ (giveContract c s).mse = s.mse ∧
      (giveContract c s).rot = s.rot ∧ (giveContract c s).fmn = s.fmn ∧ (giveContract c s).freeCount = s.freeCount ∧
      (giveContract c s).pending = s.pending :=
  ⟨rfl, rfl, rfl, rfl, rfl, rfl, rfl, rfl, rfl, rfl, rfl, rfl, rfl⟩

@[simp] theorem giveAsset_leaves (id : Nat) (s : State) :
    (giveAsset id s).cfl = s.cfl ∧ (giveAsset id s).links = s.links ∧ (giveAsset id s).osu = s.osu ∧
      (giveAsset id s).zones = s.zones ∧ (giveAsset id s).cmp = s.cmp ∧ (giveAsset id s).csu = s.csu ∧
      (giveAsset id s).cqs = s.cqs ∧ (giveAsset id s).mse = s.mse ∧ (giveAsset id s).rot = s.rot ∧
      (giveAsset id s).exu = s.exu ∧ (giveAsset id s).fmn = s.fmn ∧ (giveAsset id s).freeCount = s.freeCount ∧
      (giveAsset id s).pending = s.pending :=
  ⟨rfl, rfl, rfl, rfl, rfl, rfl, rfl, rfl, rfl, rfl, rfl, rfl, rfl⟩

@[simp] theorem streamUp_leaves (s : State) :
    (streamUp s).cfl = s.cfl ∧ (streamUp s).links = s.links ∧ (streamUp s).osu = s.osu ∧
      (streamUp s).zones = s.zones ∧ (streamUp s).cmp = s.cmp ∧ (streamUp s).ast = s.ast ∧ (streamUp s).csu = s.csu ∧
      (streamUp s).mse = s.mse ∧ (streamUp s).rot = s.rot ∧ (streamUp s).exu = s.exu ∧ (streamUp s).fmn = s.fmn ∧
      (streamUp s).freeCount = s.freeCount ∧ (streamUp s).pending = s.pending :=
  ⟨rfl, rfl, rfl, rfl, rfl, rfl, rfl, rfl, rfl, rfl, rfl, rfl, rfl⟩

@[simp] theorem streamDown_leaves (s : State) :
    (streamDown s).cfl = s.cfl ∧ (streamDown s).links = s.links ∧ (streamDown s).osu = s.osu ∧
      (streamDown s).zones = s.zones ∧ (streamDown s).cmp = s.cmp ∧ (streamDown s).ast = s.ast ∧
      (streamDown s).csu = s.csu ∧ (streamDown s).mse = s.mse ∧ (streamDown s).rot = s.rot ∧
      (streamDown s).exu = s.exu ∧ (streamDown s).fmn = s.fmn ∧ (streamDown s).freeCount = s.freeCount ∧
      (streamDown s).pending = s.pending :=
  ⟨rfl, rfl, rfl, rfl, rfl, rfl, rfl, rfl, rfl, rfl, rfl, rfl, rfl⟩

end Sys2Proof.Machine
end

