-- ==== Sys2Proof/Laws/Buffers.lean ====
section
/-! SUPPORT. The canonical forms of the two numbered buffers, the asset directory and the clip buffer: every operation
on them keeps the form, and what reading a record gives after it. -/

namespace Sys2Proof.Machine

/-! ## Lists of numbered records -/

theorem risingFrom_mono {α : Type} {a b : Nat} (l : List (Nat × α)) (h : a ≤ b) (hl : risingFrom b l = true) :
    risingFrom a l = true := by
  cases l with
  | nil => rfl
  | cons e l => simp only [risingFrom, Bool.and_eq_true, decide_eq_true_eq] at *; exact ⟨by omega, hl.2⟩

theorem risingFrom_putEntry {α : Type} (i : Nat) (a : α) (l : List (Nat × α)) :
    ∀ lo, lo ≤ i → risingFrom lo l = true → risingFrom lo (putEntry i a l) = true := by
  induction l with
  | nil => intro lo h _; simp [putEntry, risingFrom, h]
  | cons e l ih =>
    obtain ⟨k, b⟩ := e
    intro lo h hl
    simp only [risingFrom, Bool.and_eq_true, decide_eq_true_eq] at hl
    simp only [putEntry]
    split
    · simp only [risingFrom, Bool.and_eq_true, decide_eq_true_eq]; exact ⟨h, by omega, hl.2⟩
    · split
      · next h1 h2 => subst h2; simp only [risingFrom, Bool.and_eq_true, decide_eq_true_eq]; exact ⟨h, hl.2⟩
      · simp only [risingFrom, Bool.and_eq_true, decide_eq_true_eq]; exact ⟨hl.1, ih _ (by omega) hl.2⟩

theorem risingFrom_dropEntry {α : Type} (i : Nat) (l : List (Nat × α)) :
    ∀ lo, risingFrom lo l = true → risingFrom lo (dropEntry i l) = true := by
  induction l with
  | nil => intro lo h; exact h
  | cons e l ih =>
    obtain ⟨k, b⟩ := e
    intro lo hl
    simp only [risingFrom, Bool.and_eq_true, decide_eq_true_eq] at hl
    simp only [dropEntry]
    split
    · exact risingFrom_mono l (by omega) hl.2
    · simp only [risingFrom, Bool.and_eq_true, decide_eq_true_eq]; exact ⟨hl.1, ih _ hl.2⟩

@[simp] theorem entryAt_putEntry_same {α : Type} (d : α) (i : Nat) (a : α) (l : List (Nat × α)) :
    entryAt d (putEntry i a l) i = a := by
  induction l with
  | nil => simp [putEntry, entryAt]
  | cons e l ih =>
    obtain ⟨k, b⟩ := e
    simp only [putEntry]
    split
    · simp [entryAt]
    · split
      · simp [entryAt]
      · next h1 h2 => simp [entryAt, Ne.symm h2, ih]

theorem entryAt_putEntry_other {α : Type} (d : α) (i j : Nat) (a : α) (l : List (Nat × α)) (h : j ≠ i) :
    entryAt d (putEntry i a l) j = entryAt d l j := by
  induction l with
  | nil => simp [putEntry, entryAt, h.symm]
  | cons e l ih =>
    obtain ⟨k, b⟩ := e
    simp only [putEntry]
    split
    · simp [entryAt, h.symm]
    · split
      · next h1 h2 => subst h2; simp [entryAt, h.symm]
      · simp only [entryAt, ih]

theorem entryAt_dropEntry_other {α : Type} (d : α) (i j : Nat) (l : List (Nat × α)) (h : j ≠ i) :
    entryAt d (dropEntry i l) j = entryAt d l j := by
  induction l with
  | nil => rfl
  | cons e l ih =>
    obtain ⟨k, b⟩ := e
    simp only [dropEntry]
    split
    · next h2 => subst h2; simp [entryAt, h.symm]
    · simp only [entryAt, ih]

/-- A list rising from above a number has no record of it. -/
theorem entryAt_of_rising {α : Type} (d : α) (i : Nat) (l : List (Nat × α)) :
    ∀ lo, i < lo → risingFrom lo l = true → entryAt d l i = d := by
  induction l with
  | nil => intro lo _ _; rfl
  | cons e l ih =>
    obtain ⟨k, b⟩ := e
    intro lo h hl
    simp only [risingFrom, Bool.and_eq_true, decide_eq_true_eq] at hl
    have hk : ¬k = i := by omega
    simp only [entryAt, if_neg hk]
    exact ih _ (by omega) hl.2

theorem entryAt_dropEntry_same {α : Type} (d : α) (i : Nat) (l : List (Nat × α)) :
    ∀ lo, risingFrom lo l = true → entryAt d (dropEntry i l) i = d := by
  induction l with
  | nil => intro lo _; rfl
  | cons e l ih =>
    obtain ⟨k, b⟩ := e
    intro lo hl
    simp only [risingFrom, Bool.and_eq_true, decide_eq_true_eq] at hl
    simp only [dropEntry]
    split
    · next h => subst h; exact entryAt_of_rising d i l _ (by omega) hl.2
    · next h => simp only [entryAt, if_neg (Ne.symm h)]; exact ih _ hl.2

@[simp] theorem entryAt?_putEntry_same {α : Type} (i : Nat) (a : α) (l : List (Nat × α)) :
    entryAt? (putEntry i a l) i = some a := by
  induction l with
  | nil => simp [putEntry, entryAt?]
  | cons e l ih =>
    obtain ⟨k, b⟩ := e
    simp only [putEntry]
    split
    · simp [entryAt?]
    · split
      · simp [entryAt?]
      · next h1 h2 => simp [entryAt?, Ne.symm h2, ih]

theorem entryAt?_putEntry_other {α : Type} (i j : Nat) (a : α) (l : List (Nat × α)) (h : j ≠ i) :
    entryAt? (putEntry i a l) j = entryAt? l j := by
  induction l with
  | nil => simp [putEntry, entryAt?, h.symm]
  | cons e l ih =>
    obtain ⟨k, b⟩ := e
    simp only [putEntry]
    split
    · simp [entryAt?, h.symm]
    · split
      · next h1 h2 => subst h2; simp [entryAt?, h.symm]
      · simp only [entryAt?, ih]

theorem entryAt?_dropEntry_other {α : Type} (i j : Nat) (l : List (Nat × α)) (h : j ≠ i) :
    entryAt? (dropEntry i l) j = entryAt? l j := by
  induction l with
  | nil => rfl
  | cons e l ih =>
    obtain ⟨k, b⟩ := e
    simp only [dropEntry]
    split
    · next h2 => subst h2; simp [entryAt?, h.symm]
    · simp only [entryAt?, ih]

theorem entryAt?_of_rising {α : Type} (i : Nat) (l : List (Nat × α)) :
    ∀ lo, i < lo → risingFrom lo l = true → entryAt? l i = none := by
  induction l with
  | nil => intro lo _ _; rfl
  | cons e l ih =>
    obtain ⟨k, b⟩ := e
    intro lo h hl
    simp only [risingFrom, Bool.and_eq_true, decide_eq_true_eq] at hl
    have hk : ¬k = i := by omega
    simp only [entryAt?, if_neg hk]
    exact ih _ (by omega) hl.2

theorem entryAt?_dropEntry_same {α : Type} (i : Nat) (l : List (Nat × α)) :
    ∀ lo, risingFrom lo l = true → entryAt? (dropEntry i l) i = none := by
  induction l with
  | nil => intro lo _; rfl
  | cons e l ih =>
    obtain ⟨k, b⟩ := e
    intro lo hl
    simp only [risingFrom, Bool.and_eq_true, decide_eq_true_eq] at hl
    simp only [dropEntry]
    split
    · next h => subst h; exact entryAt?_of_rising i l _ (by omega) hl.2
    · next h => simp only [entryAt?, if_neg (Ne.symm h)]; exact ih _ hl.2

theorem mem_putEntry {α : Type} {e : Nat × α} (i : Nat) (a : α) (l : List (Nat × α)) (h : e ∈ putEntry i a l) :
    e = (i, a) ∨ e ∈ l := by
  induction l with
  | nil => simpa [putEntry] using h
  | cons f l ih =>
    obtain ⟨k, b⟩ := f
    simp only [putEntry] at h
    split at h
    · simpa using h
    · split at h
      · rcases List.mem_cons.1 h with h | h
        · exact .inl h
        · exact .inr (List.mem_cons_of_mem _ h)
      · rcases List.mem_cons.1 h with h | h
        · exact .inr (by simp [h])
        · rcases ih h with h | h
          · exact .inl h
          · exact .inr (List.mem_cons_of_mem _ h)

theorem mem_dropEntry {α : Type} {e : Nat × α} (i : Nat) (l : List (Nat × α)) (h : e ∈ dropEntry i l) : e ∈ l := by
  induction l with
  | nil => exact h
  | cons f l ih =>
    obtain ⟨k, b⟩ := f
    simp only [dropEntry] at h
    split at h
    · exact List.mem_cons_of_mem _ h
    · rcases List.mem_cons.1 h with h | h
      · simp [h]
      · exact List.mem_cons_of_mem _ (ih h)

/-- A slot counted as lowest free is below the bound and not in the list. -/
theorem lowestFree_spec {α : Type} (bound : Nat) (l : List (Nat × α)) :
    ∀ i j, risingFrom i l = true → lowestFree bound i l = some j → i ≤ j ∧ entryAt? l j = none := by
  induction l with
  | nil =>
    intro i j _ h
    simp only [lowestFree] at h
    split at h
    · simp only [Option.some.injEq] at h; exact ⟨by omega, rfl⟩
    · simp at h
  | cons e l ih =>
    obtain ⟨k, b⟩ := e
    intro i j hl h
    simp only [risingFrom, Bool.and_eq_true, decide_eq_true_eq] at hl
    simp only [lowestFree] at h
    split at h
    · next hik =>
      simp only [Option.some.injEq] at h
      subst h
      refine ⟨le_refl _, ?_⟩
      simp only [entryAt?, if_neg (show ¬k = i by omega)]
      exact entryAt?_of_rising i l _ (by omega) hl.2
    · have := ih _ _ hl.2 h
      exact ⟨by omega, by simp only [entryAt?, if_neg (show ¬k = j by omega)]; exact this.2⟩

/-! ## The asset directory -/

@[simp] theorem asset_putAsset_other (s : State) (id j : Nat) (r : AssetRec) (h : j ≠ id) :
    (s.putAsset id r).asset j = s.asset j := by
  unfold State.putAsset State.asset
  dsimp only
  split
  · exact entryAt_dropEntry_other _ _ _ _ h
  · exact entryAt_putEntry_other _ _ _ _ _ h

/-- Reading a record just written; in the canonical form also when the record written is the unlisted one. -/
theorem asset_putAsset_same (s : State) (id : Nat) (r : AssetRec) (h : directoryOk s.ast.directory = true) :
    (s.putAsset id r).asset id = r := by
  simp only [directoryOk, Bool.and_eq_true] at h
  unfold State.putAsset State.asset
  dsimp only
  split
  · next hb hr =>
    rw [entryAt_dropEntry_same _ _ _ _ h.1]
    obtain ⟨b, n⟩ := r
    simp only at hb hr
    subst hb hr
    rfl
  · exact entryAt_putEntry_same _ _ _ _

/-- A record that is not EMPTY reads back as written. -/
theorem asset_putAsset_body (s : State) (id : Nat) (r : AssetRec) (h : r.body ≠ .empty) :
    (s.putAsset id r).asset id = r := by
  unfold State.putAsset State.asset
  dsimp only
  split
  · next hb _ => exact absurd hb h
  · exact entryAt_putEntry_same _ _ _ _

theorem putAsset_directoryOk (s : State) (id : Nat) (r : AssetRec) (h : directoryOk s.ast.directory = true) :
    directoryOk (s.putAsset id r).ast.directory = true := by
  simp only [directoryOk, Bool.and_eq_true, List.all_eq_true] at *
  unfold State.putAsset
  dsimp only
  split
  · exact ⟨risingFrom_dropEntry _ _ _ h.1, fun e he => h.2 e (mem_dropEntry _ _ he)⟩
  · next hn =>
    refine ⟨risingFrom_putEntry _ _ _ _ (by omega) h.1, fun e he => ?_⟩
    rcases mem_putEntry _ _ _ he with he | he
    · subst he
      simp only [Bool.or_eq_true, bne_iff_ne, ne_eq]
      by_contra hc
      simp only [not_or, not_not] at hc
      exact hn hc.2 hc.1
    · exact h.2 e he

theorem takeAsset_directoryOk (id : Nat) (s t : State) (h : directoryOk s.ast.directory = true)
    (ht : takeAsset id s = some t) : directoryOk t.ast.directory = true := by
  simp only [takeAsset] at ht
  split at ht
  · simp only [Option.some.injEq] at ht
    subst ht
    exact putAsset_directoryOk _ _ _ h
  · simp at ht

theorem giveAsset_directoryOk (id : Nat) (s : State) (h : directoryOk s.ast.directory = true) :
    directoryOk (giveAsset id s).ast.directory = true :=
  putAsset_directoryOk _ _ _ h

theorem takeRef_directoryOk (c : Content) (s : State) (h : directoryOk s.ast.directory = true) :
    directoryOk (takeRef c s).ast.directory = true := by
  unfold takeRef
  split
  · next a _ =>
    cases ht : takeAsset a s with
    | none => exact h
    | some t => exact takeAsset_directoryOk a s t h ht
  · exact h

theorem giveRef_directoryOk (c : Content) (s : State) (h : directoryOk s.ast.directory = true) :
    directoryOk (giveRef c s).ast.directory = true := by
  unfold giveRef
  split
  · exact giveAsset_directoryOk _ _ h
  · exact h

theorem emptyAsset_directoryOk (id : Nat) (s : State) (h : directoryOk s.ast.directory = true) :
    directoryOk (emptyAsset id s).ast.directory = true := by
  have := putAsset_directoryOk s id AssetRec.blank h
  simpa only [emptyAsset] using this

/-! ## The clip buffer -/

theorem vacate_slotsOk (i : Nat) (s : State) (h : slotsOk s.cqs.slots = true) :
    slotsOk (vacate i s).cqs.slots = true :=
  risingFrom_dropEntry _ _ _ h

theorem freeSlot_slotsOk (i : Nat) (s : State) (h : slotsOk s.cqs.slots = true) :
    slotsOk (freeSlot i s).cqs.slots = true := by
  unfold freeSlot
  split
  · exact h
  · split
    · exact risingFrom_putEntry _ _ _ _ (by omega) h
    · exact vacate_slotsOk _ _ h

theorem clearReadMark_slotsOk (i : Nat) (s : State) (h : slotsOk s.cqs.slots = true) :
    slotsOk (clearReadMark i s).cqs.slots = true := by
  unfold clearReadMark
  split
  · exact h
  · split
    · exact vacate_slotsOk _ _ h
    · exact risingFrom_putEntry _ _ _ _ (by omega) h

end Sys2Proof.Machine
end

