-- ==== Sys2Proof/Laws/Frames.lean ====
section
/-! SUPPORT. What the shared operations on zones, claims, cues, messages, rotation and exposure leave: the start-up state
and image, the output scan, the clocks and score, the feeds. One rule per operation, for rewriting. -/

namespace Sys2Proof.Machine

/-- The blocks that none of these operations writes. -/
def State.steady (s : State) : Cfl × Osu × Csu × Fmn × Nat × List Instr :=
  (s.cfl, s.osu, s.csu, s.fmn, s.freeCount, s.pending)

/-- What an equation of the blocks left says, block by block. -/
theorem steady_parts {s t : State} (h : t.steady = s.steady) :
    t.cfl = s.cfl ∧ t.osu = s.osu ∧ t.csu = s.csu ∧ t.fmn = s.fmn ∧ t.freeCount = s.freeCount ∧
      t.pending = s.pending := by
  simpa only [State.steady, Prod.mk.injEq] using h

/-- A walk over a list keeps what each of its steps keeps. -/
theorem foldl_keeps {α β γ : Type} (g : α → γ) (f : α → β → α) (h : ∀ a b, g (f a b) = g a) (l : List β) (a : α) :
    g (l.foldl f a) = g a := by
  induction l generalizing a with
  | nil => rfl
  | cons b l ih => rw [List.foldl_cons, ih, h]

/-! ## Shared records -/

@[simp] theorem modLink_steady (l : Link) (f : LinkState → LinkState) (s : State) :
    (s.modLink l f).steady = s.steady := rfl

@[simp] theorem modZone_steady (z : ZoneId) (f : ZoneRun → ZoneRun) (s : State) :
    (s.modZone z f).steady = s.steady := rfl

@[simp] theorem modContract_steady (c : ContractId) (f : Contract → Contract) (s : State) :
    (s.modContract c f).steady = s.steady := rfl

@[simp] theorem modRotZone_steady (z : ZoneId) (f : RotZone → RotZone) (s : State) :
    (s.modRotZone z f).steady = s.steady := rfl

@[simp] theorem modComp_steady (f : Composition → Composition) (s : State) :
    (s.modComp f).steady = s.steady := rfl

@[simp] theorem putAsset_steady (id : Nat) (r : AssetRec) (s : State) :
    (s.putAsset id r).steady = s.steady := rfl

@[simp] theorem withRot_steady (r : Rot) (s : State) : ({ s with rot := r } : State).steady = s.steady := rfl

@[simp] theorem withExu_steady (r : Exu) (s : State) : ({ s with exu := r } : State).steady = s.steady := rfl

@[simp] theorem withCqs_steady (r : Cqs) (s : State) : ({ s with cqs := r } : State).steady = s.steady := rfl

@[simp] theorem notify_steady (n : Notice) (s : State) :
    (notify n s).steady = s.steady := rfl

@[simp] theorem giveAsset_steady (id : Nat) (s : State) :
    (giveAsset id s).steady = s.steady := rfl

@[simp] theorem takeContract_steady (c : ContractId) (s : State) :
    (takeContract c s).steady = s.steady := rfl

@[simp] theorem giveContract_steady (c : ContractId) (s : State) :
    (giveContract c s).steady = s.steady := rfl

@[simp] theorem takenOrNot_steady (id : Nat) (s : State) :
    ((takeAsset id s).getD s).steady = s.steady := by
  unfold takeAsset
  split <;> rfl

@[simp] theorem takeRef_steady (c : Content) (s : State) :
    (takeRef c s).steady = s.steady := by
  unfold takeRef
  split <;> simp

@[simp] theorem giveRef_steady (c : Content) (s : State) :
    (giveRef c s).steady = s.steady := by
  unfold giveRef
  split <;> simp

theorem takeRef_zones (c : Content) (s : State) : (takeRef c s).zones = s.zones := by
  unfold takeRef takeAsset
  split
  · split <;> rfl
  · rfl

theorem giveRef_zones (c : Content) (s : State) : (giveRef c s).zones = s.zones := by
  unfold giveRef giveAsset
  split <;> rfl

/-- Of the zones, a write of pending content changes that content alone. -/
theorem writePending_zones (z : ZoneId) (c : Content) (s : State) :
    (writePending z c s).zones = upd s.zones z fun r => { r with pending := some c } := by
  simp only [writePending]
  split <;> simp [takeRef_zones, giveRef_zones]

@[simp] theorem writePending_steady (z : ZoneId) (c : Content) (s : State) :
    (writePending z c s).steady = s.steady := by
  unfold writePending
  dsimp only
  split <;> simp

@[simp] theorem setCurrent_steady (z : ZoneId) (c : Content) (n : Seq) (s : State) :
    (setCurrent z c n s).steady = s.steady := by
  simp [setCurrent]

@[simp] theorem dropPending_steady (z : ZoneId) (s : State) :
    (dropPending z s).steady = s.steady := by
  unfold dropPending
  split <;> simp

@[simp] theorem writeEntry_steady (z : ZoneId) (level : Nat) (c : Content) (s : State) :
    (writeEntry z level c s).steady = s.steady := by
  unfold writeEntry
  dsimp only
  split <;> simp

@[simp] theorem vacate_steady (i : Nat) (s : State) :
    (vacate i s).steady = s.steady := rfl

@[simp] theorem freeSlot_steady (i : Nat) (s : State) :
    (freeSlot i s).steady = s.steady := by
  unfold freeSlot
  split
  · rfl
  · split
    · rfl
    · simp

theorem takeAsset_steady {id : Nat} {s t : State} (h : takeAsset id s = some t) : t.steady = s.steady := by
  unfold takeAsset at h
  split at h
  · simp only [Option.some.injEq] at h; subst h; simp
  · simp at h

/-! ## Exposure -/

@[simp] theorem openFor_steady (k : RecordKey) (c : ContractId) (s : State) :
    (openFor k c s).steady = s.steady := by
  unfold openFor
  split <;> rfl

@[simp] theorem modRecord_steady (k : RecordKey) (f : OpenRecord → OpenRecord) (s : State) :
    (modRecord k f s).steady = s.steady := rfl

@[simp] theorem removeRecord_steady (k : RecordKey) (s : State) :
    (removeRecord k s).steady = s.steady := rfl

@[simp] theorem creditEntry_steady (dark : Bool) (s : State) (e : FrameEntry) :
    (creditEntry dark s e).steady = s.steady := by
  unfold creditEntry
  dsimp only
  split <;> simp

@[simp] theorem appendLog_steady (e : LogEntry) (s : State) :
    (appendLog e s).steady = s.steady := by
  simp only [appendLog, notify_steady]
  split <;> rfl

@[simp] theorem makegoodArrival_steady (e : QueueEntry) (id : Seq) (s : State) :
    (makegoodArrival e id s).steady = s.steady := by
  unfold makegoodArrival
  dsimp only
  split
  · simp
  · split
    · simp
    · next t h =>
      exact Eq.trans (show _ = t.steady from rfl) (takeAsset_steady h)

@[simp] theorem closeRecord_steady (restart : Bool) (r : OpenRecord) (m : Mark) (s : State) :
    (closeRecord restart r m s).steady = s.steady := by
  unfold closeRecord
  dsimp only
  cases restart <;> cases h : makegoodOf s r m <;> split <;> simp <;> split <;> simp

@[simp] theorem testRecord_steady (s : State) (r : OpenRecord) : (testRecord s r).steady = s.steady := by
  unfold testRecord
  split
  · split <;> simp
  · rfl

@[simp] theorem takeMark_steady (m : Mark) (s : State) :
    (takeMark m s).steady = s.steady := by
  unfold takeMark
  dsimp only
  split <;> (try rw [testRecord_steady]) <;> rw [modRecord_steady, apply_ite State.steady] <;>
    simp only [takeContract_steady, openFor_steady, ite_self]

@[simp] theorem takeRestartMark_steady (m : Mark) (s : State) :
    (takeRestartMark m s).steady = s.steady := by
  unfold takeRestartMark
  dsimp only
  split <;> simp

@[simp] theorem deliver_steady (rec : FrameRecord) (s : State) :
    (deliver rec s).steady = s.steady := by
  unfold deliver
  dsimp only
  rw [foldl_keeps State.steady _ testRecord_steady]
  exact foldl_keeps State.steady _ (creditEntry_steady rec.dark) _ _

@[simp] theorem closeAllByRestart_steady (s : State) :
    (closeAllByRestart s).steady = s.steady := by
  unfold closeAllByRestart
  refine Eq.trans (show _ = State.steady (List.foldl _ s s.exu.records) from rfl) (foldl_keeps State.steady _ (fun a r => ?_) _ _)
  split <;> simp

/-! ## Rotation -/

@[simp] theorem rotWrite_steady (z : ZoneId) (c : Content) (s : State) :
    (rotWrite z c s).steady = s.steady := by
  unfold rotWrite
  dsimp only
  split <;> simp

@[simp] theorem rotFallback_steady (z : ZoneId) (s : State) :
    (rotFallback z s).steady = s.steady := by
  simp [rotFallback]

@[simp] theorem endAiring_steady (z : ZoneId) (c : CutCause) (s : State) :
    (endAiring z c s).steady = s.steady := rfl

@[simp] theorem cutAiring_steady (z : ZoneId) (c : CutCause) (s : State) :
    (cutAiring z c s).steady = s.steady := by
  unfold cutAiring
  split
  · split <;> simp
  · rfl

@[simp] theorem cutAndHold_steady (s : State) :
    (cutAndHold s).steady = s.steady := by
  exact foldl_keeps State.steady _ (fun a z => by simp) _ _

@[simp] theorem endHold_steady (s : State) :
    (endHold s).steady = s.steady := by
  exact foldl_keeps State.steady _ (fun a z => by simp) _ _

@[simp] theorem giveEntries_steady (es : List QueueEntry) (s : State) :
    (giveEntries es s).steady = s.steady := by
  exact foldl_keeps State.steady _ (fun a e => by simp) _ _

@[simp] theorem newAiring_steady (z : ZoneId) (src : AiringSource) (spot : Option Nat) (e : QueueEntry) (s : State) :
    (newAiring z src spot e s).steady = s.steady := by
  rfl

@[simp] theorem takeSpot_steady (z : ZoneId) (t : Spot) (s : State) :
    (takeSpot z t s).steady = s.steady := by
  simp [takeSpot]

@[simp] theorem pickEntry_steady (z : ZoneId) (k : Option ContractId) (s : State) :
    (pickEntry z k s).steady = s.steady := by
  unfold pickEntry
  dsimp only
  split
  · simp
  · split
    · simp
    · split <;> simp

@[simp] theorem pick_steady (z : ZoneId) (s : State) :
    (pick z s).steady = s.steady := by
  unfold pick
  dsimp only
  split
  · split
    · simp
    · split <;> simp
  · simp

@[simp] theorem withdrawAiring_steady (a : Airing) (s : State) :
    (withdrawAiring a s).steady = s.steady := by
  simp [withdrawAiring]

@[simp] theorem countAirings_steady (n : Seq) (a : Option Seq) (z : ZoneId) (s : State) :
    (countAirings n a z s).steady = s.steady := rfl

@[simp] theorem closeAiring_steady (z : ZoneId) (o : Outcome) (a : Airing) (s : RotStep) :
    (closeAiring z o a s).1.steady = s.1.steady := by
  simp [closeAiring]

@[simp] theorem settleEnded_steady (z : ZoneId) (s : RotStep) (a : Airing) :
    (settleEnded z s a).1.steady = s.1.steady := by
  unfold settleEnded
  split <;> simp

@[simp] theorem settleEnding_steady (z : ZoneId) (s : RotStep) : (settleEnding z s).1.steady = s.1.steady := by
  unfold settleEnding
  split
  · rw [foldl_keeps (fun r : RotStep => r.1.steady) _ (settleEnded_steady z)]
    simp
  · rfl

@[simp] theorem settleAiring_steady (z : ZoneId) (s : RotStep) : (settleAiring z s).1.steady = s.1.steady := by
  unfold settleAiring
  split
  · split <;> simp
  · rfl

@[simp] theorem pickIfDue_steady (z : ZoneId) (s : State) :
    (pickIfDue z s).steady = s.steady := by
  unfold pickIfDue
  split
  · split
    · simp
    · split <;> simp
  · rfl

@[simp] theorem rotationStepZone_steady (n : Seq) (s : RotStep) (z : ZoneId) :
    (rotationStepZone n s z).1.steady = s.1.steady := by
  unfold rotationStepZone
  split
  · rfl
  · simp

@[simp] theorem rotationStep_steady (n : Seq) (s : State) :
    (rotationStep n s).steady = s.steady := by
  unfold rotationStep
  dsimp only
  rw [foldl_keeps State.steady _ (fun a m => takeMark_steady m a)]
  exact foldl_keeps (fun r : RotStep => r.1.steady) _ (rotationStepZone_steady n) _ _

@[simp] theorem replaceNow_steady (z : ZoneId) (n : Seq) (c : Content) (s : State) :
    (replaceNow z n c s).steady = s.steady := by
  unfold replaceNow
  dsimp only
  split <;> simp

@[simp] theorem conflictZone_steady (n : Seq) (k : ContractId) (cat : Nat) (s : State) (z : ZoneId) :
    (conflictZone n k cat s z).steady = s.steady := by
  unfold conflictZone
  split
  · split
    · split
      · simp
      · dsimp only
        split <;> simp
    · rfl
  · rfl

@[simp] theorem conflictPass_steady (n : Seq) (s : State) (p : ContractId × Nat) :
    (conflictPass n s p).steady = s.steady := by
  unfold conflictPass
  split
  · rfl
  · exact foldl_keeps State.steady _ (conflictZone_steady n p.1 p.2) _ _

@[simp] theorem triggerEntry_steady (src : TriggerSource) (s : State) (i : Fin 8) :
    (triggerEntry src s i).steady = s.steady := by
  unfold triggerEntry
  split
  · rfl
  · split
    · rfl
    · split
      · rfl
      · split
        · simp
        · simp only [takeContract_steady, takenOrNot_steady]; rfl

@[simp] theorem triggerEvent_steady (src : TriggerSource) (s : State) :
    (triggerEvent src s).steady = s.steady := by
  unfold triggerEvent
  split
  · exact foldl_keeps State.steady _ (triggerEntry_steady src) _ _
  · rfl

/-! ## Claims -/

@[simp] theorem modCue_steady (id : Nat) (f : Cue → Cue) (s : State) :
    (modCue id f s).steady = s.steady := rfl

@[simp] theorem cueNotice_steady (q : Cue) (c : Option AbortCause) (s : State) :
    (cueNotice q c s).steady = s.steady := by
  simp [cueNotice]

@[simp] theorem changeCue_steady (id : Nat) (f : Cue → Cue) (s : State) :
    (changeCue id f s).steady = s.steady := by
  unfold changeCue
  dsimp only
  split <;> simp

@[simp] theorem suspendCue_steady (z : ZoneId) (s : State) :
    (suspendCue z s).steady = s.steady := by
  unfold suspendCue
  split
  · split <;> simp
  · rfl

@[simp] theorem resumeCue_steady (z : ZoneId) (s : State) :
    (resumeCue z s).steady = s.steady := by
  unfold resumeCue
  split
  · split <;> simp
  · rfl

@[simp] theorem tellLost_steady (z : ZoneId) (level : Nat) (s : State) :
    (tellLost z level s).steady = s.steady := by
  unfold tellLost
  split <;> simp

@[simp] theorem changeOfTop_steady (z : ZoneId) (c : ClaimCause) (old : ClaimStack) (s : State) :
    (changeOfTop z c old s).steady = s.steady := by
  unfold changeOfTop
  dsimp only
  split <;> simp

@[simp] theorem claim_steady (z : ZoneId) (level : Nat) (h : Holder) (c : Content) (s : State) :
    ((claim z level h c s).1).steady = s.steady := by
  unfold claim
  dsimp only
  split
  · rfl
  · split
    · dsimp only
      split <;> simp
    · split <;> simp

@[simp] theorem release_steady (z : ZoneId) (level : Nat) (h : Holder) (e : Bool) (s : State) :
    ((release z level h e s).1).steady = s.steady := by
  unfold release
  dsimp only
  split
  · rfl
  · split
    · rfl
    · split
      · simp
      · split <;> simp

@[simp] theorem removeClaims_steady (l : Link) (s : State) :
    (removeClaims l s).steady = s.steady := by
  exact foldl_keeps State.steady _ (fun a z => by simp) _ _

/-! ## Cues -/

@[simp] theorem streamUp_steady (s : State) :
    (streamUp s).steady = s.steady := rfl

@[simp] theorem streamDown_steady (s : State) :
    (streamDown s).steady = s.steady := rfl

@[simp] theorem setLane_steady (z : ZoneId) (v : Option Nat) (s : State) :
    (setLane z v s).steady = s.steady := rfl

@[simp] theorem dropCue_steady (q : Cue) (st : CueState) (c : Option AbortCause) (mark : Bool) (s : State) :
    (dropCue q st c mark s).steady = s.steady := by
  unfold dropCue
  dsimp only
  rw [withCqs_steady, cueNotice_steady]
  split <;> (try rw [giveContract_steady]) <;> split <;> (try rw [apply_ite State.steady]) <;>
    (try rw [takeMark_steady]) <;> (try rw [ite_self]) <;>
    exact foldl_keeps State.steady _ (fun a i => by simp) _ _

@[simp] theorem releaseLane_steady (z : ZoneId) (e : Bool) (s : State) :
    (releaseLane z e s).steady = s.steady := by
  unfold releaseLane
  rw [setLane_steady]
  split <;> simp

@[simp] theorem nextOnLane_steady (z : ZoneId) (c : Option AbortCause) (s : State) :
    (nextOnLane z c s).steady = s.steady := by
  unfold nextOnLane
  split <;> simp

@[simp] theorem endCue_steady (q : Cue) (c : Option AbortCause) (s : State) :
    (endCue q c s).steady = s.steady := by
  simp [endCue]

@[simp] theorem abortCue_steady (c : AbortCause) (s : State) (q : Cue) : (abortCue c s q).steady = s.steady := by
  unfold abortCue
  split <;> simp

@[simp] theorem abortAll_steady (c : AbortCause) (s : State) :
    (abortAll c s).steady = s.steady := by
  exact foldl_keeps State.steady _ (abortCue_steady c) _ _

@[simp] theorem ownerLinkEnd_steady (s : State) :
    (ownerLinkEnd s).steady = s.steady := by
  simp [ownerLinkEnd]

@[simp] theorem frozenQuery_steady (n : Seq) (q : Cue) (e : Bool) (s : State) :
    ((frozenQuery n q e s).1).steady = s.steady := by
  unfold frozenQuery
  split <;> simp

@[simp] theorem playingQuery_steady (n : Seq) (q : Cue) (e : Bool) (s : State) :
    ((playingQuery n q e s).1).steady = s.steady := by
  unfold playingQuery
  split
  · dsimp only
    rw [modCue_steady]
    split <;> rfl
  · simp

@[simp] theorem enterPlaying_steady (n : Seq) (q : Cue) (s : State) :
    ((enterPlaying n q s).1).steady = s.steady := by
  unfold enterPlaying
  dsimp only
  split
  · rw [changeCue_steady, apply_ite State.steady]; simp
  · simp

@[simp] theorem cueQuery_steady (n : Seq) (z : ZoneId) (cue : Nat) (s : State) :
    ((cueQuery n z cue s).1).steady = s.steady := by
  unfold cueQuery
  dsimp only
  split
  · rfl
  · split
    · rfl
    · split
      · rfl
      · split <;> simp
      · simp
      · simp
      · rfl

@[simp] theorem clearReadMark_steady (i : Nat) (s : State) :
    (clearReadMark i s).steady = s.steady := by
  unfold clearReadMark
  split
  · rfl
  · split
    · simp
    · rfl

@[simp] theorem advanceCue_steady (q : Cue) (i : Nat) (s : State) :
    (advanceCue q i s).steady = s.steady := by
  unfold advanceCue
  split
  · simp
  · dsimp only
    split
    · rw [modCue_steady, apply_ite State.steady]; simp
    · split
      · simp
      · simp

@[simp] theorem takenReport_steady (t : TakenReport) (s : State) :
    (takenReport t s).steady = s.steady := by
  unfold takenReport
  dsimp only
  split
  · rw [advanceCue_steady, clearReadMark_steady]; rfl
  · rw [clearReadMark_steady]; rfl

/-! ## Messages -/

@[simp] theorem setQueue_steady (q : List Message) (s : State) :
    (setQueue q s).steady = s.steady := rfl

@[simp] theorem setDisplay_steady (d : Option Display) (s : State) :
    (setDisplay d s).steady = s.steady := rfl

@[simp] theorem messageNotice_steady (m : Message) (c : MessageChange) (s : State) :
    (messageNotice m c s).steady = s.steady := by
  simp [messageNotice]

@[simp] theorem messageLeaves_steady (m : Message) (c : MessageChange) (s : State) :
    (messageLeaves m c s).steady = s.steady := by
  simp [messageLeaves]

@[simp] theorem returnAhead_steady (m : Message) (c : MessageChange) (s : State) :
    (returnAhead m c s).steady = s.steady := by
  unfold returnAhead
  split <;> simp

@[simp] theorem countDisplay_steady (s : State) :
    (countDisplay s).steady = s.steady := by
  unfold countDisplay
  split
  · rfl
  · dsimp only
    split
    · split
      · simp
      · split <;> simp
    · split
      · simp
      · split <;> simp

@[simp] theorem takeOn_steady (s : State) :
    ((takeOn s).1).steady = s.steady := by
  unfold takeOn
  split
  · rfl
  · split
    · refine Eq.trans (foldl_keeps State.steady _ (fun a z => by simp) _ _) ?_
      simp
    · split
      · exact foldl_keeps State.steady _ (fun a z => by simp) _ _
      · rfl

@[simp] theorem releaseAlert_steady (s : State) :
    (releaseAlert s).steady = s.steady := by
  unfold releaseAlert
  split <;> simp

@[simp] theorem alignAlert_steady (b : Bool) (s : State) :
    (alignAlert b s).steady = s.steady := by
  unfold alignAlert
  split
  · rfl
  · split
    · split
      · split <;> simp
      · split <;> simp
    · split <;> simp

@[simp] theorem displayStep_steady (s : State) :
    (displayStep s).steady = s.steady := by
  unfold displayStep
  split
  · rfl
  · simp

@[simp] theorem setEmergency_steady (e : Emergency) (c : EmergencyCause) (s : State) :
    (setEmergency e c s).steady = s.steady := by
  simp only [setEmergency, notify_steady]
  rfl

@[simp] theorem leaveNone_steady (s : State) :
    (leaveNone s).steady = s.steady := by
  unfold leaveNone
  dsimp only
  split <;> simp

@[simp] theorem alarmAccepted_steady (b : Bool) (s : State) :
    (alarmAccepted b s).steady = s.steady := by
  unfold alarmAccepted
  split <;> simp

@[simp] theorem sampleAlarm_steady (b : Bool) (s : State) :
    (sampleAlarm b s).steady = s.steady := by
  unfold sampleAlarm
  dsimp only
  split
  · rw [alarmAccepted_steady]; rfl
  · rfl

@[simp] theorem countExpiries_steady (s : State) :
    (countExpiries s).steady = s.steady := by
  unfold countExpiries
  dsimp only
  rw [foldl_keeps State.steady _ (fun a m => by simp), setQueue_steady]
  split <;> simp

/-! ## Composition -/

@[simp] theorem adoptZone_steady (n : Seq) (s : State) (z : ZoneId) : (adoptZone n s z).steady = s.steady := by
  unfold adoptZone tellOnAir
  dsimp only
  split
  · split
    · simp
    · split <;> simp
  · split
    · split
      · split <;> simp
      · simp
    · rfl

@[simp] theorem takeFrame_steady (z : ZoneId) (cue i : Nat) (s : State) : (takeFrame z cue i s).steady = s.steady := by
  unfold takeFrame
  split <;> rfl

@[simp] theorem queryZone_steady (s : State) (z : ZoneId) : (queryZone s z).steady = s.steady := by
  unfold queryZone
  split
  · dsimp only
    rw [modComp_steady]
    split <;> simp
  · simp

@[simp] theorem adoptEmergency_steady (n : Seq) (s : State) :
    (adoptEmergency n s).steady = s.steady := by
  unfold adoptEmergency
  dsimp only
  split <;> rw [apply_ite State.steady] <;> simp

@[simp] theorem adoptionPoint_steady (n : Seq) (s : State) :
    (adoptionPoint n s).steady = s.steady := by
  unfold adoptionPoint
  dsimp only
  rw [modComp_steady, adoptEmergency_steady, foldl_keeps State.steady _ (fun a z => by simp [takeShown])]
  exact foldl_keeps State.steady _ (adoptZone_steady n) _ _

@[simp] theorem mirrorCopies_steady (n : Seq) (s : State) :
    (mirrorCopies n s).steady = s.steady := by
  refine foldl_keeps State.steady _ (fun a z => foldl_keeps State.steady _ (fun b y => ?_) _ _) _ _
  unfold copyTo
  dsimp only
  split
  · split <;> simp
  · simp

@[simp] theorem finishAdvance_steady (s : State) :
    (finishAdvance s).steady = s.steady := by
  unfold finishAdvance
  dsimp only
  rw [modComp_steady, mirrorCopies_steady]
  exact foldl_keeps State.steady _ (conflictPass_steady _) _ _

@[simp] theorem whenAdvanced_steady (s : State) :
    (whenAdvanced s).steady = s.steady := by
  unfold whenAdvanced
  split <;> simp

@[simp] theorem stageAdopt_steady (s : State) :
    (stageAdopt s).steady = s.steady := by
  unfold stageAdopt
  split <;> simp

@[simp] theorem takenAll_steady (s : State) :
    (takenAll s).steady = s.steady := by
  exact foldl_keeps State.steady _ (fun a t => by simp) _ _

@[simp] theorem stageReady_steady (s : State) :
    (stageReady s).steady = s.steady := by
  unfold stageReady
  dsimp only
  rw [takenAll_steady, whenAdvanced_steady, foldl_keeps State.steady _ queryZone_steady, stageAdopt_steady]

@[simp] theorem report_steady (o : ReportOrder) (n : Seq) (s : State) :
    (report o n s).steady = s.steady := by
  unfold report
  split <;> simp

@[simp] theorem dropAsset_steady (id : Nat) (c : AssetCause) (s : State) :
    (dropAsset id c s).steady = s.steady := by
  unfold dropAsset assetNotice
  split <;> rfl

@[simp] theorem abortLoads_steady (l : Link) (s : State) :
    (abortLoads l s).steady = s.steady := by
  exact foldl_keeps State.steady _ (fun a id => by simp) _ _

@[simp] theorem cqsLinkEnd_steady (l : Link) (s : State) :
    (cqsLinkEnd l s).steady = s.steady := by
  unfold cqsLinkEnd ownerLinkEnd
  split
  · exact (abortAll_steady _ (streamDown s)).trans rfl
  · rfl

/-- What the three owners do at a link end leaves start-up, scan, clocks, score and feeds. -/
@[simp] theorem announceEnd_steady (l : Link) (o : LinkEndOrder) (s : State) :
    (announceEnd l o s).steady = s.steady := by
  cases o <;> simp [announceEnd]

end Sys2Proof.Machine
end

