-- ==== Sys2Proof/WellFormed.lean ====
section
/-! DEFINITION. Well-formed commands: the operands lie in the ranges the manual gives what arrives from outside. A
meaning does not rest on it: a command that is not well formed is no event of the part. -/

namespace Sys2Proof

/-- R23: a return word counts 1 to 64 blocks. -/
def returnCountOk (n : Nat) : Bool := 1 ≤ n && n ≤ 64

/-- R106: the clip id and the frame number have 16 bits. -/
def clipFrameOk (f : ClipFrame) : Bool := f.clip < 65536 && f.frame < 65536

/-- R174: 1 to 64 samples of 12 bits. -/
def samplesOk (l : List Nat) : Bool := 1 ≤ l.length && l.length ≤ 64 && l.all fun v => decide (v < 4096)

/-- R190: a payload has at most 1,024 bytes. -/
def payloadOk (p : List Byte) : Bool := p.length ≤ 1024

/-- R124: a message id has 16 bits. -/
def messageIdOk (n : Nat) : Bool := n < 65536

/-- The well-formedness check of a command. -/
def Instr.wellFormed : Instr → Bool
  | .returnWord _ _ w => returnCountOk w.2
  | .clipFrameArrival f => clipFrameOk f
  | .channelConversionEnd l => samplesOk l
  | .hello _ _ p => payloadOk p
  | .messageExpiry n _ _ => messageIdOk n
  | _ => true

end Sys2Proof
end

