-- ==== Sys2Proof/Laws/PerInstr.lean ====
section
/-! SUPPORT. The family `Operands`: for each command, that the well-formedness check is the range the manual gives its
operands. -/

namespace Sys2Proof.Laws.Operands

/-- The ranges of a command's operands as statements about numbers (R23, R106, R124, R174, R190). -/
def InRange : Instr → Prop
  | .returnWord _ _ w => 1 ≤ w.2 ∧ w.2 ≤ 64
  | .clipFrameArrival f => f.clip < 65536 ∧ f.frame < 65536
  | .channelConversionEnd l => (1 ≤ l.length ∧ l.length ≤ 64) ∧ ∀ v ∈ l, v < 4096
  | .hello _ _ p => p.length ≤ 1024
  | .messageExpiry n _ _ => n < 65536
  | _ => True

/-- The check of a command holds exactly when its operands are in range. -/
def Statement (i : Instr) : Prop := i.wellFormed = true ↔ InRange i

theorem coldStart (cause : ColdCause) : Statement (.coldStart cause) := ⟨fun _ => trivial, fun _ => rfl⟩

theorem powerUpExit : Statement .powerUpExit := ⟨fun _ => trivial, fun _ => rfl⟩

theorem configReadComplete : Statement .configReadComplete := ⟨fun _ => trivial, fun _ => rfl⟩

theorem residentLoadComplete : Statement .residentLoadComplete := ⟨fun _ => trivial, fun _ => rfl⟩

theorem badLengthFrame (link : Link) (bytes : List Byte) : Statement (.badLengthFrame link bytes) :=
  ⟨fun _ => trivial, fun _ => rfl⟩

theorem frameReceive (link : Link) (bytes : List Byte) : Statement (.frameReceive link bytes) :=
  ⟨fun _ => trivial, fun _ => rfl⟩

theorem hello (link : Link) (tag : Byte) (payload : List Byte) : Statement (.hello link tag payload) := by
  simp [Statement, InRange, Instr.wellFormed, payloadOk]

theorem keepaliveExpiry (link : Link) (order : LinkEndOrder) : Statement (.keepaliveExpiry link order) :=
  ⟨fun _ => trivial, fun _ => rfl⟩

theorem holdOverExpiry (link : Link) (order : LinkEndOrder) : Statement (.holdOverExpiry link order) :=
  ⟨fun _ => trivial, fun _ => rfl⟩

theorem requestStart (link : Link) : Statement (.requestStart link) := ⟨fun _ => trivial, fun _ => rfl⟩

theorem replyEntersQueue (link : Link) : Statement (.replyEntersQueue link) := ⟨fun _ => trivial, fun _ => rfl⟩

theorem transmitFrameSent (link : Link) : Statement (.transmitFrameSent link) := ⟨fun _ => trivial, fun _ => rfl⟩

theorem linkStatus (link : Link) : Statement (.linkStatus link) := ⟨fun _ => trivial, fun _ => rfl⟩

theorem frameStart : Statement .frameStart := ⟨fun _ => trivial, fun _ => rfl⟩

theorem returnWord (chain : ChainId) (sent : Bool) (word : Byte × Nat) : Statement (.returnWord chain sent word) := by
  simp [Statement, InRange, Instr.wellFormed, returnCountOk]

theorem scanCompletion : Statement .scanCompletion := ⟨fun _ => trivial, fun _ => rfl⟩

theorem chainFault (chain : ChainId) : Statement (.chainFault chain) := ⟨fun _ => trivial, fun _ => rfl⟩

theorem chainRecover (chain : ChainId) : Statement (.chainRecover chain) := ⟨fun _ => trivial, fun _ => rfl⟩

theorem setDark (link : Link) : Statement (.setDark link) := ⟨fun _ => trivial, fun _ => rfl⟩

theorem setLit (link : Link) : Statement (.setLit link) := ⟨fun _ => trivial, fun _ => rfl⟩

theorem testFrame (link : Link) : Statement (.testFrame link) := ⟨fun _ => trivial, fun _ => rfl⟩

theorem adoptionPoint : Statement .adoptionPoint := ⟨fun _ => trivial, fun _ => rfl⟩

theorem gapEnd (zone : ZoneId) : Statement (.gapEnd zone) := ⟨fun _ => trivial, fun _ => rfl⟩

theorem clipFrameQuery (zone : ZoneId) : Statement (.clipFrameQuery zone) := ⟨fun _ => trivial, fun _ => rfl⟩

theorem freezeLimitAbort (zone : ZoneId) : Statement (.freezeLimitAbort zone) := ⟨fun _ => trivial, fun _ => rfl⟩

theorem clipTakenReport (zone : ZoneId) : Statement (.clipTakenReport zone) := ⟨fun _ => trivial, fun _ => rfl⟩

theorem frameRepeatEnd (zone : ZoneId) : Statement (.frameRepeatEnd zone) := ⟨fun _ => trivial, fun _ => rfl⟩

theorem cueDone (zone : ZoneId) : Statement (.cueDone zone) := ⟨fun _ => trivial, fun _ => rfl⟩

theorem planAllocation : Statement .planAllocation := ⟨fun _ => trivial, fun _ => rfl⟩

theorem compositionEnd (order : ReportOrder) : Statement (.compositionEnd order) := ⟨fun _ => trivial, fun _ => rfl⟩

theorem airingComplete (zone : ZoneId) (order : ReportOrder) : Statement (.airingComplete zone order) :=
  ⟨fun _ => trivial, fun _ => rfl⟩

theorem messageShowingEnd (order : ReportOrder) : Statement (.messageShowingEnd order) :=
  ⟨fun _ => trivial, fun _ => rfl⟩

theorem msTick (input : TickInput) : Statement (.msTick input) := ⟨fun _ => trivial, fun _ => rfl⟩

theorem clockExpiry (clock : ClockId) (input : TickInput) : Statement (.clockExpiry clock input) :=
  ⟨fun _ => trivial, fun _ => rfl⟩

theorem hornEnd (input : TickInput) : Statement (.hornEnd input) := ⟨fun _ => trivial, fun _ => rfl⟩

theorem stopLineAccept (input : TickInput) : Statement (.stopLineAccept input) := ⟨fun _ => trivial, fun _ => rfl⟩

theorem alarmLineAccept (input : TickInput) : Statement (.alarmLineAccept input) := ⟨fun _ => trivial, fun _ => rfl⟩

theorem messageExpiry (message : Nat) (source : Link) (input : TickInput) : Statement (.messageExpiry message source input) :=
  by
  simp [Statement, InRange, Instr.wellFormed, messageIdOk]

theorem setClock (link : Link) : Statement (.setClock link) := ⟨fun _ => trivial, fun _ => rfl⟩

theorem startClock (link : Link) : Statement (.startClock link) := ⟨fun _ => trivial, fun _ => rfl⟩

theorem stopClock (link : Link) : Statement (.stopClock link) := ⟨fun _ => trivial, fun _ => rfl⟩

theorem adjustClock (link : Link) : Statement (.adjustClock link) := ⟨fun _ => trivial, fun _ => rfl⟩

theorem resetShot (link : Link) : Statement (.resetShot link) := ⟨fun _ => trivial, fun _ => rfl⟩

theorem applyCapture (link : Link) : Statement (.applyCapture link) := ⟨fun _ => trivial, fun _ => rfl⟩

theorem horn (link : Link) : Statement (.horn link) := ⟨fun _ => trivial, fun _ => rfl⟩

theorem setScore (link : Link) : Statement (.setScore link) := ⟨fun _ => trivial, fun _ => rfl⟩

theorem addScore (link : Link) : Statement (.addScore link) := ⟨fun _ => trivial, fun _ => rfl⟩

theorem showZone (link : Link) : Statement (.showZone link) := ⟨fun _ => trivial, fun _ => rfl⟩

theorem hideZone (link : Link) : Statement (.hideZone link) := ⟨fun _ => trivial, fun _ => rfl⟩

theorem takeover (link : Link) : Statement (.takeover link) := ⟨fun _ => trivial, fun _ => rfl⟩

theorem releaseTakeover (link : Link) : Statement (.releaseTakeover link) := ⟨fun _ => trivial, fun _ => rfl⟩

theorem clockStatus (link : Link) : Statement (.clockStatus link) := ⟨fun _ => trivial, fun _ => rfl⟩

theorem zoneStatus (link : Link) : Statement (.zoneStatus link) := ⟨fun _ => trivial, fun _ => rfl⟩

theorem planStatus (link : Link) : Statement (.planStatus link) := ⟨fun _ => trivial, fun _ => rfl⟩

theorem assetBegin (link : Link) : Statement (.assetBegin link) := ⟨fun _ => trivial, fun _ => rfl⟩

theorem assetData (link : Link) : Statement (.assetData link) := ⟨fun _ => trivial, fun _ => rfl⟩

theorem assetEnd (link : Link) : Statement (.assetEnd link) := ⟨fun _ => trivial, fun _ => rfl⟩

theorem assetAbort (link : Link) : Statement (.assetAbort link) := ⟨fun _ => trivial, fun _ => rfl⟩

theorem assetDelete (link : Link) : Statement (.assetDelete link) := ⟨fun _ => trivial, fun _ => rfl⟩

theorem assetStatus (link : Link) : Statement (.assetStatus link) := ⟨fun _ => trivial, fun _ => rfl⟩

theorem clipFrameArrival (frame : ClipFrame) : Statement (.clipFrameArrival frame) := by
  simp [Statement, InRange, Instr.wellFormed, clipFrameOk]

theorem queueCue (link : Link) : Statement (.queueCue link) := ⟨fun _ => trivial, fun _ => rfl⟩

theorem play (link : Link) : Statement (.play link) := ⟨fun _ => trivial, fun _ => rfl⟩

theorem stopCue (link : Link) : Statement (.stopCue link) := ⟨fun _ => trivial, fun _ => rfl⟩

theorem flush (link : Link) : Statement (.flush link) := ⟨fun _ => trivial, fun _ => rfl⟩

theorem cueStatus (link : Link) : Statement (.cueStatus link) := ⟨fun _ => trivial, fun _ => rfl⟩

theorem postMessage (link : Link) : Statement (.postMessage link) := ⟨fun _ => trivial, fun _ => rfl⟩

theorem postEvacuate (link : Link) : Statement (.postEvacuate link) := ⟨fun _ => trivial, fun _ => rfl⟩

theorem cancelMessage (link : Link) : Statement (.cancelMessage link) := ⟨fun _ => trivial, fun _ => rfl⟩

theorem clearEvacuate (link : Link) : Statement (.clearEvacuate link) := ⟨fun _ => trivial, fun _ => rfl⟩

theorem messageStatus (link : Link) : Statement (.messageStatus link) := ⟨fun _ => trivial, fun _ => rfl⟩

theorem define (link : Link) : Statement (.define link) := ⟨fun _ => trivial, fun _ => rfl⟩

theorem setTarget (link : Link) : Statement (.setTarget link) := ⟨fun _ => trivial, fun _ => rfl⟩

theorem setHoldback (link : Link) : Statement (.setHoldback link) := ⟨fun _ => trivial, fun _ => rfl⟩

theorem close (link : Link) : Statement (.close link) := ⟨fun _ => trivial, fun _ => rfl⟩

theorem reopen (link : Link) : Statement (.reopen link) := ⟨fun _ => trivial, fun _ => rfl⟩

theorem readContract (link : Link) : Statement (.readContract link) := ⟨fun _ => trivial, fun _ => rfl⟩

theorem addSpot (link : Link) : Statement (.addSpot link) := ⟨fun _ => trivial, fun _ => rfl⟩

theorem removeSpot (link : Link) : Statement (.removeSpot link) := ⟨fun _ => trivial, fun _ => rfl⟩

theorem setTrigger (link : Link) : Statement (.setTrigger link) := ⟨fun _ => trivial, fun _ => rfl⟩

theorem clearTrigger (link : Link) : Statement (.clearTrigger link) := ⟨fun _ => trivial, fun _ => rfl⟩

theorem rotationStatus (link : Link) : Statement (.rotationStatus link) := ⟨fun _ => trivial, fun _ => rfl⟩

theorem readLog (link : Link) : Statement (.readLog link) := ⟨fun _ => trivial, fun _ => rfl⟩

theorem channelConversionEnd (samples : List Nat) : Statement (.channelConversionEnd samples) := by
  simp [Statement, InRange, Instr.wellFormed, samplesOk]

theorem monitorScanComplete : Statement .monitorScanComplete := ⟨fun _ => trivial, fun _ => rfl⟩

theorem derateStep (feed : FeedId) : Statement (.derateStep feed) := ⟨fun _ => trivial, fun _ => rfl⟩

theorem setRange (link : Link) : Statement (.setRange link) := ⟨fun _ => trivial, fun _ => rfl⟩

theorem releaseFeed (link : Link) : Statement (.releaseFeed link) := ⟨fun _ => trivial, fun _ => rfl⟩

theorem monitorStatus (link : Link) : Statement (.monitorStatus link) := ⟨fun _ => trivial, fun _ => rfl⟩

theorem writeImageBegin (link : Link) : Statement (.writeImageBegin link) := ⟨fun _ => trivial, fun _ => rfl⟩

theorem writeImageData (link : Link) : Statement (.writeImageData link) := ⟨fun _ => trivial, fun _ => rfl⟩

theorem writeImageEnd (link : Link) : Statement (.writeImageEnd link) := ⟨fun _ => trivial, fun _ => rfl⟩

theorem flashProgrammingComplete (result : ProgramResult) : Statement (.flashProgrammingComplete result) :=
  ⟨fun _ => trivial, fun _ => rfl⟩

theorem writeIdleTimeout (input : TickInput) : Statement (.writeIdleTimeout input) := ⟨fun _ => trivial, fun _ => rfl⟩

theorem restart (link : Link) : Statement (.restart link) := ⟨fun _ => trivial, fun _ => rfl⟩

theorem warmRestartBegin : Statement .warmRestartBegin := ⟨fun _ => trivial, fun _ => rfl⟩

end Sys2Proof.Laws.Operands
end

