-- ==== Sys2Proof/Laws/Requests.lean ====
section
/-! SUPPORT. The request rows: what a request row, a reply and a notice can do, said once; and that every command answers
a next state. -/

namespace Sys2Proof.Machine

theorem index?_val {n : Nat} (c : Fin n) : index? n c.val = some c := by simp [index?]

theorem index?_of_eq {n v : Nat} (c : Fin n) (h : v = c.val) : index? n v = some c := by subst h; exact index?_val c

theorem index?_of_le {n v : Nat} (h : n ≤ v) : index? n v = none := by
  simp only [index?, dif_neg (Nat.not_lt.2 h)]

/-- A request row on a link that executes its request completes it. -/
theorem serve_of_request {l : Link} {code : Nat} {mine : List Byte → Bool} {f : List Byte → State → Answer} {s : State}
    {r : Request} {o : Bool} (hr : s.request l = some (r, o)) (hc : r.code.toNat = code) (hm : mine r.payload = true) :
    serve l code mine f s = .next (finish l r o (f r.payload s)) := by
  simp [serve, hr, hc, hm]

/-- A request row is one of two things: the link's request completed, or nothing. -/
theorem serve_cases (l : Link) (code : Nat) (mine : List Byte → Bool) (f : List Byte → State → Answer) (s : State) :
    (∃ r o, s.request l = some (r, o) ∧ r.code.toNat = code ∧ mine r.payload = true ∧
        serve l code mine f s = .next (finish l r o (f r.payload s))) ∨
      serve l code mine f s = .next s := by
  unfold serve
  split
  · next r o hr =>
    split
    · next h => exact .inl ⟨r, o, hr, h.1, h.2, rfl⟩
    · exact .inr rfl
  · exact .inr rfl

/-- A reply of a request whose link stands writes its link only. -/
theorem finish_eq (l : Link) (r : Request) (a : Answer) :
    ∃ f : LinkState → LinkState, finish l r false a = { a.state with links := upd a.state.links l f } :=
  ⟨_, rfl⟩

/-- What a reply does to a link that stands: queued, or waiting. -/
theorem finish_link (l : Link) (r : Request) (a : Answer) :
    (finish l r false a).links[l] = (a.state.links[l]).answer (.reply r.tag r.code a.status a.body) := by
  simp [finish, State.modLink, upd]

/-- A request whose link has ended sends no reply, and leaves what its owner left. -/
theorem finish_orphan (l : Link) (r : Request) (a : Answer) :
    finish l r true a = a.state.modLink l fun ls => { ls with executing := .idle } :=
  rfl

/-- What every row that executes requests keeps, a request run out at its link's end keeps. -/
theorem runOut_keeps (P : State → Prop) (l : Link) (s : State)
    (hm : ∀ (r : Request) (o : Bool), s.request l = some (r, o) →
      P (s.modLink l fun ls => { ls with executing := .running r true }))
    (hrow : ∀ e ∈ ownerRows, ∀ a b : State, P a → e.2 l a = .next b → P b) (h : P s) : P (runOut l s) := by
  unfold runOut
  split
  · next r o hr =>
    have hr' : s.request l = some (r, o) := hr
    generalize hL : ownerRows.filter (·.1 == r.code.toNat) = L
    have hsub : ∀ e ∈ L, e ∈ ownerRows := by
      intro e he; subst hL; exact (List.mem_filter.1 he).1
    have hs := hm r o hr'
    clear hL hr hr' hm h
    revert hs
    generalize s.modLink l (fun ls => { ls with executing := .running r true }) = a
    intro ha
    induction L generalizing a with
    | nil => exact ha
    | cons e L ih =>
      refine ih (fun e' he' => hsub e' (List.mem_cons_of_mem _ he')) _ ?_
      have he := hrow e (hsub e (List.mem_cons_self ..)) a
      show P (leftBy (e.2 l a) a)
      unfold leftBy
      split
      · next t ht => exact he t ha ht
      · exact ha
  · exact h

/-- A link that executes nothing has nothing to run out. -/
theorem runOut_idle (l : Link) (s : State) (h : s.request l = none) : runOut l s = s := by
  unfold runOut
  rw [h]

/-- A notice writes no link but by one of two offers, and nothing else. -/
theorem notify_link (n : Notice) (s : State) (l : Link) :
    (notify n s).links[l] = s.links[l] ∨ (notify n s).links[l] = (s.links[l]).offer n := by
  simp only [notify, Fin.getElem_fin, Vector.getElem_ofFn]
  split
  · exact .inr rfl
  · exact .inl rfl

/-- A notice on a link: its queue grows by at most the notice, within 16 entries, or its overrun flag is set. -/
theorem offer_cases (l : LinkState) (n : Notice) :
    (l.tx.length < 16 ∧ l.offer n = { l with tx := l.tx ++ [.notice n] }) ∨ l.offer n = { l with overrun := true } := by
  unfold LinkState.offer
  split
  · next h => exact .inl ⟨h.2, rfl⟩
  · exact .inr rfl

theorem serve_next (l : Link) (code : Nat) (mine : List Byte → Bool) (f : List Byte → State → Answer) (s : State) :
    ∃ t, serve l code mine f s = .next t := by
  rcases serve_cases l code mine f s with ⟨r, o, _, _, _, h⟩ | h
  · exact ⟨_, h⟩
  · exact ⟨_, h⟩

/-- Every command answers a next state: nothing stops the part. -/
theorem exec_next (c : Instr) (s : State) : ∃ t, exec c s = .next t := by
  cases c <;> simp only [exec, execAddScore, execAddSpot, execAdjustClock, execAdoptionPoint, execAiringComplete, execAlarmLineAccept,
    execApplyCapture, execAssetAbort, execAssetBegin, execAssetData, execAssetDelete, execAssetEnd,
    execAssetStatus, execBadLengthFrame, execCancelMessage, execChainFault, execChainRecover,
    execChannelConversionEnd, execClearEvacuate, execClearTrigger, execClipFrameArrival, execClipFrameQuery,
    execClipTakenReport, execClockExpiry, execClockStatus, execClose, execColdStart, execCompositionEnd,
    execConfigReadComplete, execCueDone, execCueStatus, execDefine, execDerateStep, execFlashProgrammingComplete,
    execFlush, execFrameReceive, execFrameRepeatEnd, execFrameStart, execFreezeLimitAbort, execGapEnd, execHello,
    execHide, execHoldOverExpiry, execHorn, execHornEnd, execKeepaliveExpiry, execLinkStatus, execMessageExpiry,
    execMessageShowingEnd, execMessageStatus, execMonitorScanComplete, execMonitorStatus, execMsTick,
    execPlanAllocation, execPlanStatus, execPlay, execPostEvacuate, execPostMessage, execPowerUpExit,
    execQueueCue, execReadContract, execReadLog, execReleaseFeed, execReleaseTakeover, execRemoveSpot, execReopen,
    execReplyEntersQueue, execRequestStart, execResetShot, execResidentLoadComplete, execRestart, execReturnWord,
    execRotationStatus, execScanCompletion, execSetClock, execSetDark, execSetHoldback, execSetLit, execSetRange,
    execSetScore, execSetTarget, execSetTrigger, execShow, execStartClock, execStopClock, execStopCue,
    execStopLineAccept, execTakeover, execTestFrame, execTransmitFrameSent, execWarmRestartBegin,
    execWriteIdleTimeout, execWriteImageBegin, execWriteImageData, execWriteImageEnd, execZoneStatus, scanWhen, takenWhen, tickWhen] <;> first
    | exact serve_next _ _ _ _ _
    | exact ⟨_, rfl⟩
    | (repeat' split) <;> exact ⟨_, rfl⟩

/-- Every step answers a next state. -/
theorem step_goesOn (s : State) : GoesOn s := by
  unfold GoesOn step
  split
  · exact ⟨s, rfl⟩
  · exact exec_next _ _

end Sys2Proof.Machine
end

