-- ==== Sys2Proof/Laws/Rotation.lean ====
section
/-! SUPPORT. The rotation's search (R151 to R154): what a search of a queue takes and removes, what eligibility reads, and
what a new airing writes. -/

namespace Sys2Proof.Machine

/-- A search of a queue takes the first entry that is not removed and suits the zone, and removes the entries before it
whose contract is MET or CLOSED; with none that suits it takes nothing and removes all such entries. -/
theorem scanQueue_spec (s : State) (cue : Option ContractId) (z : ZoneId) (q : List QueueEntry) :
    let done := fun e : QueueEntry =>
      (s.exu.contracts[e.contract]).state = .met ∨ (s.exu.contracts[e.contract]).state = .closed
    let fits := fun e : QueueEntry => ¬done e ∧ e.cls = s.spotClass z ∧ eligible s cue z e.contract .any = true
    (∀ before e after, q = before ++ e :: after → (∀ x ∈ before, ¬fits x) → fits e →
      (scanQueue s cue z q).2 = (some e, (before.filter fun e => decide (¬done e)) ++ after)) ∧
    ((∀ x ∈ q, ¬fits x) → (scanQueue s cue z q).2 = (none, q.filter fun e => decide (¬done e))) := by
  intro done fits
  induction q with
  | nil => constructor <;> simp [scanQueue]
  | cons a q ih =>
    constructor
    · intro before e after hq hb he
      cases before with
      | nil =>
        simp only [List.nil_append, List.cons.injEq] at hq
        obtain ⟨rfl, rfl⟩ := hq
        simp only [scanQueue]
        rw [if_neg he.1, if_pos he.2]
        simp
      | cons b before =>
        simp only [List.cons_append, List.cons.injEq] at hq
        obtain ⟨rfl, rfl⟩ := hq
        have hna := hb a (by simp)
        have := ih.1 before e after rfl (fun x hx => hb x (by simp [hx])) he
        simp only [scanQueue]
        by_cases ho : done a
        · rw [if_pos ho, List.filter_cons_of_neg (by simpa using ho)]
          exact Prod.ext (congrArg Prod.fst this) (congrArg Prod.snd this)
        · rw [if_neg ho, if_neg (fun h => hna ⟨ho, h⟩), List.filter_cons_of_pos (by simpa using ho)]
          exact Prod.ext (congrArg Prod.fst this :) (congrArg (fun r => a :: r.2) this :)
    · intro hb
      have hna := hb a (by simp)
      have := ih.2 (fun x hx => hb x (by simp [hx]))
      simp only [scanQueue]
      by_cases ho : done a
      · rw [if_pos ho, List.filter_cons_of_neg (by simpa using ho)]
        exact Prod.ext (congrArg Prod.fst this) (congrArg Prod.snd this)
      · rw [if_neg ho, if_neg (fun h => hna ⟨ho, h⟩), List.filter_cons_of_pos (by simpa using ho)]
        exact Prod.ext (congrArg Prod.fst this :) (congrArg (fun r => a :: r.2) this :)

/-- Two states of which a search reads the same: image, clocks, cues, zones, rotation records, and of each contract
everything but its references. -/
def SearchAlike (s t : State) : Prop :=
  t.cfl = s.cfl ∧ t.csu = s.csu ∧ t.cqs = s.cqs ∧ t.zones = s.zones ∧ t.rot.zones = s.rot.zones ∧
    ∀ c : ContractId, { t.exu.contracts[c] with refs := 0 } = { s.exu.contracts[c] with refs := 0 }

theorem searchAlike_trans {s t u : State} (h : SearchAlike s t) (k : SearchAlike t u) : SearchAlike s u :=
  ⟨k.1.trans h.1, k.2.1.trans h.2.1, k.2.2.1.trans h.2.2.1, k.2.2.2.1.trans h.2.2.2.1,
    k.2.2.2.2.1.trans h.2.2.2.2.1, fun c => (k.2.2.2.2.2 c).trans (h.2.2.2.2.2 c)⟩

/-- A contract reference given back changes nothing a search reads. -/
theorem giveContract_alike (c : ContractId) (s : State) : SearchAlike s (giveContract c s) := by
  refine ⟨rfl, rfl, rfl, rfl, rfl, fun d => ?_⟩
  simp only [giveContract, State.modContract]
  by_cases h : c = d
  · subst h
    rw [upd_same]
  · rw [upd_other _ _ _ _ h]

/-- Removed entries give their references back and nothing else: the rotation stays as it is. -/
theorem giveEntries_leaves (es : List QueueEntry) (s : State) :
    SearchAlike s (giveEntries es s) ∧ (giveEntries es s).rot = s.rot ∧ (giveEntries es s).steady = s.steady := by
  induction es generalizing s with
  | nil => exact ⟨⟨rfl, rfl, rfl, rfl, rfl, fun _ => rfl⟩, rfl, rfl⟩
  | cons e es ih =>
    have h := ih (giveContract e.contract (giveAsset e.asset s))
    have k : SearchAlike s (giveAsset e.asset s) := ⟨rfl, rfl, rfl, rfl, rfl, fun _ => rfl⟩
    exact ⟨searchAlike_trans (searchAlike_trans k (giveContract_alike _ _)) h.1, h.2.1, h.2.2⟩

/-- Eligibility is the same in states of which a search reads the same. -/
theorem eligible_congr {s t : State} (h : SearchAlike s t) (cue : Option ContractId) (z : ZoneId) (c : ContractId)
    (e : Eligibility) : eligible t cue z c e = eligible s cue z c e := by
  obtain ⟨hcfl, hcsu, hq, hzo, hz, hc⟩ := h
  have hr : rivals t = rivals s := by
    funext a b
    simp only [rivals]
    rw [show (t.exu.contracts[a]).category = (s.exu.contracts[a]).category from (congrArg Contract.category (hc a) :),
      show (t.exu.contracts[b]).category = (s.exu.contracts[b]).category from (congrArg Contract.category (hc b) :)]
  have hcb : carriedBy t = carriedBy s := by funext y r; simp only [carriedBy, hzo]
  have hf : t.followers = s.followers := by funext y; simp only [State.followers, State.leaderOf, hcfl]
  have hp : clockPasses t = clockPasses s := by funext e; simp only [clockPasses, State.gameRunning, hcsu]
  have h1 : (t.exu.contracts[c]).state = (s.exu.contracts[c]).state := (congrArg Contract.state (hc c) :)
  have h2 : (t.exu.contracts[c]).earned = (s.exu.contracts[c]).earned := (congrArg Contract.earned (hc c) :)
  have h3 : (t.exu.contracts[c]).holdback = (s.exu.contracts[c]).holdback := (congrArg Contract.holdback (hc c) :)
  have h4 : (t.exu.contracts[c]).target = (s.exu.contracts[c]).target := (congrArg Contract.target (hc c) :)
  have h5 : (t.exu.contracts[c]).exclusion = (s.exu.contracts[c]).exclusion := (congrArg Contract.exclusion (hc c) :)
  have h6 : (t.exu.contracts[c]).category = (s.exu.contracts[c]).category := (congrArg Contract.category (hc c) :)
  simp only [eligible, categoryPasses, hr, hcb, hf, hp, hz, hq, h1, h2, h3, h4, h5, h6]

/-- A search of a queue is the same in states of which it reads the same. -/
theorem scanQueue_congr {s t : State} (h : SearchAlike s t) (cue : Option ContractId) (z : ZoneId)
    (q : List QueueEntry) : scanQueue t cue z q = scanQueue s cue z q := by
  have hsc : t.spotClass z = s.spotClass z := by simp only [State.spotClass, State.zoneCfg, h.1]
  have hst : ∀ c : ContractId, (t.exu.contracts[c]).state = (s.exu.contracts[c]).state := fun c =>
    (congrArg Contract.state (h.2.2.2.2.2 c) :)
  induction q with
  | nil => rfl
  | cons e q ih => simp only [scanQueue, ih, hst, hsc, eligible_congr h]

/-- A new airing stands PENDING in its record, which is otherwise left. -/
theorem newAiring_record {z : ZoneId} {s : State} {r : RotZone} (src : AiringSource) (spot : Option Nat) (e : QueueEntry)
    (h : s.rot.zones[z] = some r) :
    let a : Airing :=
      { id := s.rot.nextAiring, phase := .pending, source := src, spot := spot, contract := e.contract, asset := e.asset,
        duration := e.duration, level := e.level, frames := 0, first := none, last := none, cut := none }
    (newAiring z src spot e s).rot.zones[z] = some { r with airing := some a } := by
  simp only [newAiring, State.modRotZone, upd_same, h]
  rfl

end Sys2Proof.Machine
end

