-- ==== Sys2Proof/Tests/Slice0.lean ====
section
/-! SUPPORT. Tests on small states: ill-formed commands refused by the well-formedness check, one step of every row, and
for each statement with hypotheses states that meet them, clause by clause, at the ends of their ranges. -/

namespace Sys2Proof.Tests

set_option Elab.async false

open Sys2Proof.Machine

/-! ## Small states -/

/-- A zone of a class: one tile at the corner, level 255, load 128, counter 0. -/
def zone (c : ZoneClass) : ZoneCfg :=
  { cls := c, col := 0, row := 0, width := 1, height := 1, gap := 0, fallback := none, level := 255, load := 128,
    clockSource := 0, counters := [0], alert := false }

/-- A link of a role with every right, the ids 8 to 500, and subscribed to nothing. -/
def linkOf (r : Role) : LinkParams :=
  { baud := 115200, role := r, rights := ⟨true, true, true⟩, keepalive := 1000, holdOver := 10, protBase := 8,
    protLimit := 500, subs := [] }

/-- Z0 MAIN with the alert flag, Z1 MAIN with a gap, Z2 SPONSOR leading Z6, Z3 CLOCK, Z4 SCORE, Z5 MESSAGE, Z15
EMERGENCY; two tiles on chain 0 and feed 0; CL0 the stream owner. -/
def image : Image :=
  { blankImage with
    geometry := { width := 2, height := 1, frameRate := 50, tiles := [⟨0, 0, 0, 0, 0⟩, ⟨1, 0, 0, 1, 0⟩] }
    linkTable := { links := #v[linkOf .replay, linkOf .timing, linkOf .sponsor, linkOf .message],
                   streamOwner := some 0, preroll := 1, freezeLimit := 2 }
    groups := #v[some ⟨2, [6]⟩, none, none, none]
    zones := #v[{ zone .main with alert := true }, { zone .main with gap := 2 }, zone .sponsor, zone .clock, zone .score,
      zone .message, zone .sponsor, zone .message, zone .message, zone .message, zone .message, zone .message,
      zone .message, zone .message, zone .message, zone .emergency] }

/-- In RUN with that image, the first chain used, every link UP, and rotation zone records for Z0 to Z2. -/
def base : State :=
  { State.reset with
    cfl := { State.reset.cfl with startup := .run, image := image }
    links := Vector.replicate 4 { LinkState.reset with mode := .up, keepalive := some 1000 }
    osu := { State.reset.osu with chains := upd State.reset.osu.chains 0 fun _ => ⟨.ok, 0, 0⟩,
                                  feedLines := Vector.replicate 4 true }
    rot := { State.reset.rot with
      zones := Vector.ofFn fun z : ZoneId => if z.val < 3 then some ⟨none, none, [], false, true⟩ else none } }

/-- Bytes of a payload. -/
def bytes (l : List Nat) : List Byte := l.map fun n => BitVec.ofNat 8 n

/-- The state with a request executing on CL0. -/
def asking (code : Nat) (p : List Nat) (s : State) : State :=
  s.modLink 0 fun ls => { ls with executing := .running ⟨7, BitVec.ofNat 8 code, bytes p⟩ false }

/-- Whether CL0 executes the request, and its own link has not ended. -/
def asked (code : Nat) (p : List Nat) (s : State) : Bool :=
  (asking code p s).request 0 == some (⟨7, BitVec.ofNat 8 code, bytes p⟩, false)

/-- The state a command leaves; the state itself where the command does not complete. -/
def after (c : Instr) (s : State) : State :=
  match exec c s with
  | .next t => t
  | _ => s

/-- The last frame to send on CL0, as status and payload of a reply. -/
def lastReply (s : State) : Option (Status × ReplyBody) :=
  match (s.links[(0 : Fin 4)]).tx.getLast? with
  | some (.reply _ _ st b) => some (st, b)
  | _ => none

/-- What CL0 is answered: the reply of a request row. -/
def reply (c : Link → Instr) (code : Nat) (p : List Nat) (s : State) : Option (Status × ReplyBody) :=
  if asked code p s then lastReply (after (c 0) (asking code p s)) else none

/-- The state a request row leaves on CL0. -/
def served (c : Link → Instr) (code : Nat) (p : List Nat) (s : State) : State := after (c 0) (asking code p s)

/-- Whether a request row refuses with a status, leaving the contracts, the clocks, the assets, the queues and the zones. -/
def refused (c : Link → Instr) (code : Nat) (p : List Nat) (s : State) (st : Status) : Bool :=
  let t := served c code p s
  reply c code p s == some (st, .empty) && t.exu == s.exu && t.csu == s.csu && t.ast == s.ast && t.cqs == s.cqs &&
    t.mse == s.mse && t.rot == s.rot && t.zones == s.zones && t.osu == s.osu && t.fmn == s.fmn && t.cfl == s.cfl

/-- A READY asset of one tile. -/
def ready (refs : Nat) : AssetRec := { body := .ready ⟨1, 1, 1, 1⟩ [1] 9, refs := refs }

/-- A contract in OPEN with target 10 and one credited. -/
def opened : Contract := { Contract.unused with state := .opened, target := 10, earned := 1 }

/-- The state with contract 1 as given. -/
def withContract (k : Contract) (s : State) : State := s.modContract 1 fun _ => k

/-- The state with a clock as given. -/
def withClock (c : ClockId) (k : ClockRec) (s : State) : State := s.modClock c fun _ => k

/-- A clock counting down from a value. -/
def clock (st : ClockState) (v : Nat) : ClockRec := { ClockRec.initial with state := st, value := v }

/-- A tick with both lines deasserted. -/
def quiet : TickInput := ⟨false, false, false, false⟩

/-! ## Well-formedness: an ill-formed command for each check -/

theorem test_returnCount_checked :
    (Instr.returnWord 0 true (0, 0)).wellFormed = false ∧ (Instr.returnWord 0 true (0, 65)).wellFormed = false ∧
      (Instr.returnWord 0 true (0, 64)).wellFormed = true := by decide

theorem test_clipFrame_checked :
    (Instr.clipFrameArrival ⟨65536, 0, 1, 1, []⟩).wellFormed = false ∧
      (Instr.clipFrameArrival ⟨0, 65536, 1, 1, []⟩).wellFormed = false ∧
      (Instr.clipFrameArrival ⟨65535, 65535, 1, 1, []⟩).wellFormed = true := by decide

theorem test_samples_checked :
    (Instr.channelConversionEnd []).wellFormed = false ∧ (Instr.channelConversionEnd [4096]).wellFormed = false ∧
      (Instr.channelConversionEnd (List.replicate 65 0)).wellFormed = false ∧
      (Instr.channelConversionEnd [4095]).wellFormed = true := by decide

theorem test_payload_checked :
    (Instr.hello 0 1 (List.replicate 1025 0)).wellFormed = false ∧ (Instr.hello 0 1 [0]).wellFormed = true := by
  decide +kernel

theorem test_messageId_checked :
    (Instr.messageExpiry 65536 0 quiet).wellFormed = false ∧ (Instr.messageExpiry 65535 0 quiet).wellFormed = true := by
  decide

/-- Every other command is well formed. -/
theorem test_others_checked : (Instr.frameStart).wellFormed = true ∧ (Instr.setClock 3).wellFormed = true := by decide

/-! ## The queue, reset, the invariants -/

theorem test_step_runs_the_front :
    (match step { base with pending := [.testFrame 0, .frameStart] } with
      | .next t => t.pending == [.frameStart]
      | _ => false) = true ∧ State.reset.pending = [] := by decide +kernel

/-- A state with something in every kind of place that the invariants bound, a command waiting. -/
def busy : State :=
  { base with
    csu := { base.csu with score := upd base.csu.score 0 fun _ => 999 }
    links := upd base.links 0 fun ls => { ls with fifo := List.replicate 8 ⟨1, 2, []⟩ }
    ast := { directory := [(9, ready 0)], freeBlocks := 4095 }
    cqs := { base.cqs with slots := [(3, ⟨1, 1, 1, 1, 1, 0, [], false, false⟩)], streamUp := true, credits := 119 }
    exu := { base.exu with contracts := upd base.exu.contracts 1 fun _ => opened }
    pending := [.requestStart 0, .frameStart] }

theorem test_busy_meets_the_invariants :
    (∀ k : CounterId, busy.csu.score[k] ≤ 999) ∧
    (∀ i : FeedId, busy.osu.feedLines[i] = (busy.inRun && !(busy.fmn.feeds[i]).tripped)) ∧
    (∀ l : Link, (busy.links[l]).entries ≤ 8 ∧ (busy.links[l]).tx.length ≤ 16) ∧ busy.exu.log.length ≤ 256 ∧
    directoryOk busy.ast.directory = true ∧ busy.ast.freeBlocks + blocksHeld busy.ast.directory = 4096 ∧
    slotsOk busy.cqs.slots = true ∧ busy.cqs.slots.length ≤ 120 ∧
    busy.cqs.credits + busy.cqs.slots.length = 120 := by decide +kernel

/-- A contract of each state meets the contract law. -/
theorem test_lawful_contracts :
    ContractLawful opened ∧ ContractLawful { opened with state := .met, earned := 10 } ∧
      ContractLawful { opened with state := .closed } ∧ ContractLawful Contract.unused := by
  unfold ContractLawful opened Contract.unused
  decide

theorem test_busy_steps :
    (match step busy with
      | .next t => (t.links[(0 : Fin 4)]).entries == 8 && t.pending == [.frameStart]
      | _ => false) = true := by decide +kernel

/-! ## Replies, notices, request rows -/

/-- CL0 with 15 and with 16 frames to send: the last free entry, and none. -/
def full (n : Nat) : State := base.modLink 0 fun ls => { ls with tx := List.replicate n (.reply 1 2 .ok .empty) }

theorem test_reply_enters_or_waits :
    ((full 15).links[(0 : Fin 4)]).tx.length < 16 ∧ 16 ≤ ((full 16).links[(0 : Fin 4)]).tx.length ∧
    ((served .setLit 97 [] (full 15)).links[(0 : Fin 4)]).executing = .idle ∧
    ((served .setLit 97 [] (full 16)).links[(0 : Fin 4)]).executing =
      .replyWaiting (.reply 7 97 .ok (.standing .lit)) := by decide +kernel

/-- CL0 subscribed to chain notices with n of them queued. -/
def noticed (n : Nat) : State :=
  { base with
    cfl := { base.cfl with image := { image with linkTable := { image.linkTable with
      links := upd image.linkTable.links 0 fun p => { p with subs := [.chainState] } } } }
    links := upd base.links 0 fun ls => { ls with tx := List.replicate n (.notice (.chainState 1 .ok 0)) } }

theorem test_notice_offered :
    NoticeKind.chainState ∈ ((noticed 0).params 0).subs ∧ NoticeKind.chainState ∉ ((noticed 0).params 1).subs ∧
    ((noticed 11).links[(0 : Fin 4)]).noticeCount < 12 ∧ 12 ≤ ((noticed 12).links[(0 : Fin 4)]).noticeCount ∧
    ((notify (.chainState 2 .fault 0) (noticed 11)).links[(0 : Fin 4)]).tx.length = 12 ∧
    ((notify (.chainState 2 .fault 0) (noticed 12)).links[(0 : Fin 4)]).overrun = true ∧
    ((notify (.chainState 2 .fault 0) (noticed 12)).links[(1 : Fin 4)]).overrun = false := by decide +kernel

/-- Every request row of fixed or bounded length, asked with a payload one byte too long, and one too short. -/
theorem test_wrong_lengths :
    (payloadLengths.all fun e => refused e.1 e.2.1 (List.replicate (e.2.2.2 + 1) 0) base .form) = true ∧
    (payloadLengths.all fun e => e.2.2.1 == 0 ||
      refused e.1 e.2.1 (List.replicate (e.2.2.1 - 1) 0) base .form) = true ∧
    refused .writeImageEnd 115 [0] base .form = true ∧ base.programming 0 = false := by decide +kernel

/-- Every row that names a number, asked with the first number that does not exist, and with 255. -/
theorem test_numbers_above_the_last :
    (numberedRows.all fun e => refused e.1 e.2.1 (e.2.2.2 :: List.replicate (e.2.2.1 - 1) 0) base .range &&
      refused e.1 e.2.1 (255 :: List.replicate (e.2.2.1 - 1) 0) base .range) = true ∧
    refused .assetBegin 16 [2, 0, 1, 1, 1, 1] base .range = true ∧
    refused .assetData 17 [2, 0, 0, 0, 0, 0, 0] base .range = true ∧ refused .assetEnd 18 [2, 0] base .range = true ∧
    refused .assetAbort 19 [2, 0] base .range = true ∧ refused .assetDelete 20 [2, 0] base .range = true ∧
    refused .assetStatus 21 [2, 0] base .range = true := by decide +kernel

/-! ## Start-up -/

/-- The part outside RUN, in a start-up state. -/
def inState (st : StartState) (s : State) : State := { s with cfl := { s.cfl with startup := st } }

theorem test_cold_start :
    (after (.coldStart (.resetLine 9)) base).cfl.startup = .run ∧ base.cfl.staging = .idle ∧
    (after (.coldStart (.resetLine 10)) base).cfl.startup = .powerUp ∧
    (after (.coldStart (.powerOn (.holds [1]) [])) base).cfl.flash = .holds [1] ∧
    (after (.coldStart (.powerOn .silent [])) { base with cfl := { base.cfl with staging := .programming 0 [] } }).cfl.flash =
      .incomplete ∧
    (after (.coldStart (.resetLine 10)) { base with cfl := { base.cfl with staging := .programming 0 [] } }).cfl.flash =
      .incomplete := by decide +kernel

theorem test_powerUpExit :
    State.reset.cfl.startup = .powerUp ∧ (after .powerUpExit State.reset).cfl.startup = .configRead ∧
    base.cfl.startup ≠ .powerUp ∧ (after .powerUpExit base).cfl.startup = .run := by decide +kernel

/-- An image of the given header figures and directory entries (kind, offset, length), with 8 bytes behind them. -/
def imageWith (magic version count length : Nat) (entries : List (Nat × Nat × Nat)) : List Byte :=
  let directory := entries.flatMap fun e => field 4 e.1 ++ field 4 e.2.1 ++ field 4 e.2.2
  let tail := bytes [1, 2, 3, 4, 5, 6, 7, 8]
  let crc := crc32 ((directory ++ tail).take (length - 16))
  bytes [75, 66, 50, magic] ++ field 2 version ++ field 2 count ++ field 4 length ++ field 4 crc ++ directory ++ tail

/-- The same with sections of length 0 of the given kinds. -/
def imageBytes (magic version count length : Nat) (kinds : List Nat) : List Byte :=
  imageWith magic version count length (kinds.map fun k => (k, 136, 0))

/-- Kinds 1 to 10. -/
def kinds : List Nat := [1, 2, 3, 4, 5, 6, 7, 8, 9, 10]

/-- An image whose sections pass: no zone but Z15 and clock zones, resident asset 0. -/
def legal : Image :=
  { blankImage with
    geometry := { width := 1, height := 1, frameRate := 50, tiles := [⟨0, 0, 0, 0, 0⟩] }
    feedTable :=
      { currents := Vector.replicate 4 { enabled := false, lowSet := ⟨512, 0, 1, 2⟩, highSet := ⟨1536, 0, 1, 6142⟩,
                                         initial := .low }
        voltages := Vector.replicate 4 { enabled := false, cal := 1024, tripUnder := 0, sag := 1, recover := 6142 }
        budgets := Vector.replicate 4 2048 }
    zones := #v[zone .clock, zone .clock, zone .clock, zone .clock, zone .clock, zone .clock, zone .clock, zone .clock,
      zone .clock, zone .clock, zone .clock, zone .clock, zone .clock, zone .clock, zone .clock, zone .emergency]
    residents := [⟨0, ⟨1, 1, 1, 1⟩, List.replicate 3072 255⟩] }

/-- Each check of R185 fails in turn, and the last image passes. -/
theorem test_image_checks :
    imageFault (imageBytes 53 1 10 136 kinds) legal = some ⟨.noImage, none⟩ ∧
    imageFault (imageBytes 52 2 10 136 kinds) legal = some ⟨.version, none⟩ ∧
    imageFault (imageBytes 52 1 10 63 kinds) legal = some ⟨.length, none⟩ ∧
    imageFault (imageBytes 52 1 10 8388609 kinds) legal = some ⟨.length, none⟩ ∧
    imageFault (imageBytes 52 1 10 145 kinds) legal = some ⟨.crc, none⟩ ∧
    imageFault (imageBytes 52 1 9 136 kinds) legal = some ⟨.sectionTable, none⟩ ∧
    imageFault (imageBytes 52 1 10 135 kinds) legal = some ⟨.sectionTable, none⟩ ∧
    imageFault (imageBytes 52 1 10 136 [1, 1, 3, 4, 5, 6, 7, 8, 9, 10]) legal = some ⟨.sectionTable, some 1⟩ ∧
    imageFault (imageBytes 52 1 10 136 [1, 0, 3, 4, 5, 6, 7, 8, 9, 10]) legal = some ⟨.sectionTable, some 0⟩ ∧
    imageFault (imageBytes 52 1 10 136 [11, 0, 3, 4, 5, 6, 7, 8, 9, 10]) legal = some ⟨.sectionTable, some 11⟩ ∧
    imageFault (imageBytes 52 1 10 136 kinds) { legal with alarm := ⟨0, 9⟩ } = some ⟨.check, some 9⟩ ∧
    sectionFault { legal with zones := upd legal.zones 14 fun _ => { zone .sponsor with fallback := some 7 } } = none ∧
    imageFault (imageBytes 52 1 10 136 kinds)
      { legal with zones := upd legal.zones 14 fun _ => { zone .sponsor with fallback := some 7 } } =
        some ⟨.check, some 6⟩ ∧
    imageFault (imageBytes 52 1 10 136 kinds) { legal with alarm := ⟨1, 10⟩ } = some ⟨.check, some 9⟩ ∧
    directoryFault (imageBytes 52 1 10 136 kinds) = none ∧ sectionFault legal = none ∧
    imageFault (imageBytes 52 1 10 136 kinds) legal = none := by decide +kernel

/-- The legal image with a zone in a place. -/
def zoned (z : ZoneId) (c : ZoneCfg) (im : Image) : Image := { im with zones := upd im.zones z fun _ => c }

/-- Zones of every class, a mirror group, a stream-owner link and a period counter, at the ends of their ranges. -/
def varied : Image :=
  let z := zoned 0 { zone .main with alert := true, gap := 7, fallback := some 7 } (zoned 1 (zone .main)
    (zoned 2 (zone .sponsor) (zoned 6 (zone .sponsor) (zoned 4 { zone .score with counters := [15, 15] } legal))))
  { z with
    groups := #v[none, some ⟨2, [6]⟩, none, none]
    linkTable := { z.linkTable with links := #v[linkOf .replay, linkOf .timing, linkOf .sponsor, linkOf .message],
                                    streamOwner := some 0 }
    clocks := { z.clocks with stopFilter := 15, period := some 15 } }

/-- Check 6: the varied image passes, and one value outside its range fails the section that holds it. -/
theorem test_section_ranges :
    let mapped := fun t => { varied with geometry := { varied.geometry with tiles := t } }
    let link := fun p => { varied with linkTable := { varied.linkTable with links := upd varied.linkTable.links 3 fun _ => p } }
    let group := fun g => { varied with groups := upd varied.groups 3 fun _ => some g }
    let broken : List (Nat × Image) :=
      [(1, mapped []), (1, mapped [⟨0, 0, 48, 0, 0⟩]), (1, mapped [⟨0, 0, 0, 0, 0⟩, ⟨0, 0, 0, 1, 0⟩]),
        (2, { varied with feedTable := { varied.feedTable with
          voltages := upd varied.feedTable.voltages 3 fun v => { v with sag := 0 } } }),
        (3, { varied with governor := { varied.governor with average := 3 } }),
        (4, link { linkOf .message with keepalive := 99 }),
        (4, { varied with linkTable := { varied.linkTable with streamOwner := some 1 } }),
        (4, { varied with linkTable := { varied.linkTable with streamOwner := some 4 } }),
        (5, { varied with classMap := { varied.classMap with score := 7 } })] ++
      [(6, zoned 7 (zone .main) varied), (6, zoned 1 { zone .main with alert := true } varied),
        (6, zoned 0 (zone .main) varied), (6, zoned 3 { zone .clock with fallback := some 0 } varied),
        (6, zoned 2 { zone .sponsor with gap := 1 } varied), (6, zoned 4 { zone .score with counters := [] } varied),
        (6, zoned 2 { zone .sponsor with width := 2 } varied), (6, zoned 2 (zone .emergency) varied),
        (7, group ⟨3, [4]⟩), (7, group ⟨6, [2]⟩), (7, group ⟨2, []⟩),
        (8, { varied with clocks := { varied.clocks with period := some 16 } }),
        (9, { varied with alarm := ⟨0, 251⟩ }), (9, { varied with alarm := ⟨8, 10⟩ }),
        (10, { varied with residents := [⟨0, ⟨1, 1, 1, 1⟩, [255]⟩] }), (4, { varied with undecodable := [4] })]
    sectionFault varied = none ∧ (broken.all fun e => sectionFault e.2 == some ⟨.check, some e.1⟩) = true := by
  decide +kernel

/-- Directory entries at the ends of their range: a section up to the image length passes, one past it and one that
begins in the directory fail; an empty one overlaps nothing. -/
theorem test_section_extents :
    let b := fun off len => imageWith 52 1 10 144 ((2, off, len) :: (kinds.filter (· != 2)).map fun k => (k, 136, 0))
    imageFault (b 137 7) legal = none ∧ imageFault (b 137 8) legal = some ⟨.sectionTable, some 2⟩ ∧
    imageFault (b 135 1) legal = some ⟨.sectionTable, some 2⟩ ∧ imageFault (b 0 0) legal = none ∧
    sectionBytes (b 137 7) 2 = bytes [2, 3, 4, 5, 6, 7, 8] ∧ sectionBytes (b 137 7) 3 = [] := by decide +kernel

/-- A flash whose ten empty sections spell the legal image. -/
def spelt (s : State) : State :=
  { s with cfl := { s.cfl with
      startup := .configRead, flash := .holds (imageBytes 52 1 10 136 kinds)
      layout := kinds.map fun k => (k, [], legal) } }

/-- CONFIG_READ with the passing image, at a cold start and at a warm restart from SAFE, and with none. -/
theorem test_config_read :
    let good := spelt State.reset
    let again := spelt { busy with cfl := { busy.cfl with restarting := true } }
    let none' := inState .configRead { busy with cqs := { busy.cqs with violation := true, discards := 7 } }
    let warm := { none' with cfl := { none'.cfl with restarting := true } }
    (match readFlash 0 good.cfl.layout good.cfl.flash with
      | .ok im => im == legal
      | .error _ => false) = true ∧ good.cfl.restarting = false ∧
    (∀ i : FeedId, (good.fmn.feeds[i]).tripped = false) ∧
    (after .configReadComplete good).cfl.startup = .residentLoad ∧
    (after .configReadComplete good).mse.alarmFilter = legal.alarm.filter ∧
    ((after .configReadComplete good).fmn.channels[currentOf 3]).enabled = false ∧
    ((after .configReadComplete good).fmn.feeds[(3 : Fin 4)]).budget = 2048 ∧
    (after .configReadComplete again).fmn = busy.fmn ∧ (after .configReadComplete again).cfl.image = legal ∧
    (match readFlash 0 none'.cfl.layout none'.cfl.flash with
      | .ok _ => false
      | .error f => f == ⟨.noImage, none⟩) = true ∧
    (after .configReadComplete none').cfl.startup = .safe ∧ (after .configReadComplete none').cqs.discards = 0 ∧
    (after .configReadComplete warm).cqs.discards = 7 ∧
    (after .configReadComplete none').cfl.fault = some ⟨.noImage, none⟩ := by decide +kernel

/-- RESIDENT_LOAD: an asset that does not fit, one that is missing, and a passage to RUN. -/
theorem test_resident_load :
    let load := fun (im : Image) (free : Nat) => { State.reset with
      cfl := { State.reset.cfl with startup := .residentLoad, image := im }, ast := ⟨[], free⟩ }
    let missing := { legal with alarm := ⟨1, 10⟩ }
    (residentLoad (load legal 0)).2 = some 0 ∧
    (after .residentLoadComplete (load legal 0)).cfl.fault = some ⟨.resident, some 0⟩ ∧
    (residentLoad (load missing 4096)).2 = none ∧ missingResident (residentLoad (load missing 4096)).1 = some 1 ∧
    (after .residentLoadComplete (load missing 4096)).cfl.fault = some ⟨.resident, some 1⟩ ∧
    (residentLoad (load legal 4096)).2 = none ∧ missingResident (residentLoad (load legal 4096)).1 = none ∧
    (after .residentLoadComplete (load legal 4096)).cfl.startup = .run ∧
    (after .residentLoadComplete (load legal 4096)).osu.seq = 1 ∧
    (after .residentLoadComplete (load legal 4096)).osu.feedLines = Vector.replicate 4 true ∧
    (after .residentLoadComplete (load legal 4096)).ast.freeBlocks = 4095 := by decide +kernel

/-! ## Links -/

/-- CL0 in a link state. -/
def linkIn (m : LinkMode) (s : State) : State := s.modLink 0 fun ls => { ls with mode := m }

/-- A PLAN_STATUS request frame. -/
def planFrame : List Byte := frameBytes 1 ⟨9, 5, []⟩

theorem test_frames_received :
    base.serving = true ∧ (base.links[(0 : Fin 4)]).rx = [] ∧
    ((after (.frameReceive 0 planFrame) base).links[(0 : Fin 4)]).fifo = [⟨9, 5, []⟩] ∧
    (busy.links[(0 : Fin 4)]).entries = 8 ∧
    lastReply (after (.frameReceive 0 planFrame) busy) = some (.full, .empty) ∧
    lastReply (after (.frameReceive 0 planFrame) (linkIn .helloWait base)) = some (.notUp, .empty) ∧
    ((after (.frameReceive 0 planFrame) (linkIn .down base)).links[(0 : Fin 4)]).mode = .helloWait ∧
    ((after (.frameReceive 0 planFrame) (linkIn .lapsed base)).links[(0 : Fin 4)]).mode = .lapsed ∧
    ((after (.frameReceive 0 (0 :: planFrame.take 7)) base).links[(0 : Fin 4)]).rx = planFrame.take 7 := by
  decide +kernel

theorem test_badLengthFrame :
    1024 < (4 : Byte).toNat * 256 + (1 : Byte).toNat ∧
    ((after (.badLengthFrame 0 [165, 4, 1]) base).links[(0 : Fin 4)]).frameErrors = 1 ∧
    ((after (.badLengthFrame 0 [165, 4, 0]) base).links[(0 : Fin 4)]).frameErrors = 0 := by decide +kernel

theorem test_hello :
    roleOf (1 : Byte).toNat = some .replay ∧ (base.params 0).role = .replay ∧
    ((after (.hello 0 3 [1]) (linkIn .down base)).links[(0 : Fin 4)]).mode = .up ∧
    (after (.hello 0 3 [1]) (linkIn .down base)).cqs.credits = 120 ∧
    (after (.hello 0 3 [1]) (linkIn .down
      { busy with cqs := { busy.cqs with streamUp := false, credits := 0, lane := [.grant] } })).cqs =
      { busy.cqs with credits := 119, lane := .grant :: .resetMark :: List.replicate 119 .grant } ∧
    base.inRun = true ∧ base.owner = some 0 ∧
    ((after (.hello 0 3 [1]) (linkIn .lapsed base)).links[(0 : Fin 4)]).mode = .up ∧
    (after (.hello 0 3 [1]) (linkIn .lapsed base)).cqs.streamUp = false ∧
    (base.params 0).role ≠ .timing ∧ roleOf (0 : Byte).toNat = some .timing ∧
    lastReply (after (.hello 0 3 [0]) base) = some (.denied, .empty) ∧
    lastReply (after (.hello 0 3 []) base) = some (.form, .empty) ∧
    ((after (.hello 0 3 [0]) (inState .safe (linkIn .down base))).links[(0 : Fin 4)]).mode = .up := by decide +kernel

/-- CL0 with its hold-over time as given. -/
def heldOver (n : Nat) : State :=
  { base with cfl := { base.cfl with image := { image with linkTable := { image.linkTable with
      links := upd image.linkTable.links 0 fun p => { p with holdOver := n } } } } }

theorem test_keepaliveExpiry :
    (State.reset.links[(0 : Fin 4)]).keepalive = none ∧
    (after (.keepaliveExpiry 0 .zmCqsAst) State.reset) = State.reset ∧
    ((after (.keepaliveExpiry 0 .zmCqsAst) (linkIn .helloWait base)).links[(0 : Fin 4)]).mode = .down ∧
    0 < ((heldOver 1).params 0).holdOver ∧
    ((after (.keepaliveExpiry 0 .zmCqsAst) (heldOver 1)).links[(0 : Fin 4)]).holdOver = some 1 ∧
    ((heldOver 0).params 0).holdOver = 0 ∧
    ((after (.keepaliveExpiry 0 .zmCqsAst) (heldOver 0)).links[(0 : Fin 4)]).mode = .down := by decide +kernel

/-- CL0 LAPSED with a claim, a load and an executing request. -/
def lapsed : State :=
  let s := (asking 5 [] base).modLink 0 fun ls => { ls with mode := .lapsed, holdOver := some 10, overrun := true }
  { s.modZone 0 fun r => { r with stack := { r.stack with takeover := some (0, .clock) } } with
    ast := { directory := [(9, { body := .loading ⟨1, 1, 1, 1⟩ 0 [] 0, refs := 0 })], freeBlocks := 4095 } }

theorem test_holdOverExpiry :
    (lapsed.links[(0 : Fin 4)]).mode = .lapsed ∧ (lapsed.links[(0 : Fin 4)]).holdOver.isSome = true ∧
    losesRestart 0 lapsed = false ∧ directoryOk lapsed.ast.directory = true ∧
    ([LinkEndOrder.zmCqsAst, .zmAstCqs, .cqsZmAst, .cqsAstZm, .astZmCqs, .astCqsZm].all fun o =>
      let t := after (.holdOverExpiry 0 o) lapsed
      (t.links[(0 : Fin 4)]).mode == .down && t.ast.directory == [] && t.ast.freeBlocks == 4096 &&
        (t.zones[(0 : Fin 16)]).stack.takeover.isNone && (t.links[(0 : Fin 4)]).executing == .idle) = true := by
  decide +kernel

/-- CL0 with a request of a code in its FIFO, in a start-up state. -/
def queued (code : Nat) (st : StartState) : State :=
  (inState st base).modLink 0 fun ls => { ls with fifo := [⟨7, BitVec.ofNat 8 code, []⟩] }

theorem test_requestStart :
    groupOf 1 = none ∧ groupOf 10 = none ∧ groupOf 116 = none ∧
    lastReply (after (.requestStart 0) (queued 10 .run)) = some (.form, .empty) ∧
    groupOf 113 = some .image ∧ groupOf 5 = some .common ∧
    ((after (.requestStart 0) (queued 113 .safe)).links[(0 : Fin 4)]).executing = .running ⟨7, 113, []⟩ false ∧
    lastReply (after (.requestStart 0) (queued 5 .safe)) = some (.configFault, .empty) ∧
    admits (base.params 0) .common = true ∧ admits (base.params 0) .timing = false ∧
    ((after (.requestStart 0) (queued 5 .run)).links[(0 : Fin 4)]).executing = .running ⟨7, 5, []⟩ false ∧
    lastReply (after (.requestStart 0) (queued 32 .run)) = some (.denied, .empty) := by decide +kernel

/-- A refusal with 16 frames in the transmit queue waits, and the next request with it; the reply enters at the next
free entry. -/
theorem test_refusal_waits :
    let stuck := (full 16).modLink 0 fun ls => { ls with fifo := [⟨7, 10, []⟩, ⟨8, 5, []⟩] }
    let t := after (.requestStart 0) stuck
    16 ≤ (stuck.links[(0 : Fin 4)]).tx.length ∧ (t.links[(0 : Fin 4)]).fifo = [⟨8, 5, []⟩] ∧
    (t.links[(0 : Fin 4)]).executing = .replyWaiting (.reply 7 10 .form .empty) ∧
    after (.requestStart 0) t = t ∧ after (.replyEntersQueue 0) t = t ∧
    lastReply (after (.replyEntersQueue 0) (after (.transmitFrameSent 0) t)) = some (.form, .empty) := by decide +kernel

theorem test_transmit_queue :
    let waits := base.modLink 0 fun ls => { ls with executing := .replyWaiting (.reply 7 5 .ok .empty) }
    ((after (.replyEntersQueue 0) waits).links[(0 : Fin 4)]).executing = .idle ∧
    lastReply (after (.replyEntersQueue 0) waits) = some (.ok, .empty) ∧
    ((after (.transmitFrameSent 0) (full 2)).links[(0 : Fin 4)]).tx.length = 1 ∧
    (TxFrame.reply 1 112 .ok .empty).restarts = true ∧ (TxFrame.reply 1 112 .state .empty).restarts = false ∧
    (after (.transmitFrameSent 0)
      (base.modLink 0 fun ls => { ls with tx := [.reply 1 112 .ok .empty] })).cfl.startup = .configRead := by
  decide +kernel

theorem test_linkStatus :
    (served .linkStatus 2 [] (base.modLink 0 fun ls => { ls with overrun := true })).links[(0 : Fin 4)].overrun = false ∧
    (reply .linkStatus 2 [] base).map (·.1) = some .ok ∧ base.cfl.startup = .run ∧
    ((inState .safe base).params 0) = safeParams := by decide +kernel

/-! ## The output scan -/

/-- A frame being scanned with a record, its return window open. -/
def frame : ScanFrame :=
  { num := some 4, tag := 4, mode := .lit, picture := [], record := some ⟨4, false, []⟩,
    returns := Vector.replicate 48 none, windowOpen := true }

/-- The frame with chain 0's word accepted. -/
def answered (tag : Byte) (n : Nat) : ScanFrame := { frame with returns := upd frame.returns 0 fun _ => some (tag, n) }

/-- Scanning a frame with chain 0 in a state. -/
def scanning (f : ScanFrame) (r : ChainRec) : State :=
  { base with osu := { base.osu with scanning := some f, seq := 4, chains := upd base.osu.chains 0 fun _ => r } }

theorem test_frameStart :
    base.inRun = true ∧ openScan base = none ∧ base.cmp.comp.phase = .idle ∧ base.osu.built = none ∧
    (after .frameStart base).osu.seq = 1 ∧
    (after .frameStart base).osu.scanning.map (·.tag) = some 0 ∧
    (let s := { base with osu := { base.osu with built := some ⟨[], ⟨300, false, []⟩⟩, testPending := true } }
     (after .frameStart s).osu.scanning.map (fun f => (f.num, f.tag, f.mode)) = some (some 300, 44, .test) ∧
     (after .frameStart s).osu.testPending = false) ∧
    (after .frameStart (scanning frame ⟨.ok, 0, 0⟩)).exu.creditedThrough = some 4 := by decide +kernel

theorem test_returnWord :
    ((after (.returnWord 0 true (4, 2)) (scanning frame ⟨.ok, 0, 0⟩)).osu.scanning.bind (·.returns[(0 : Fin 48)])) =
      some (4, 2) ∧
    after (.returnWord 0 true (5, 2)) (scanning (answered 4 2) ⟨.ok, 0, 0⟩) = scanning (answered 4 2) ⟨.ok, 0, 0⟩ ∧
    after (.returnWord 1 true (4, 2)) (scanning frame ⟨.ok, 0, 0⟩) = scanning frame ⟨.ok, 0, 0⟩ ∧
    after (.returnWord 0 false (4, 2)) (scanning frame ⟨.ok, 0, 0⟩) = scanning frame ⟨.ok, 0, 0⟩ ∧
    after (.returnWord 0 true (4, 2)) base = base := by decide +kernel

theorem test_scanCompletion :
    chainLength image 0 = 2 ∧ onTrippedFeed base 0 = false ∧
    (after .scanCompletion (scanning (answered 4 2) ⟨.suspect, 2, 0⟩)).osu.chains[(0 : Fin 48)] = ⟨.ok, 0, 0⟩ ∧
    (after .scanCompletion (scanning (answered 4 1) ⟨.ok, 0, 0⟩)).osu.chains[(0 : Fin 48)] = ⟨.suspect, 1, 0⟩ ∧
    (after .scanCompletion (scanning frame ⟨.ok, 0, 0⟩)).exu.creditedThrough = some 4 ∧
    onTrippedFeed (base.modFeed 0 fun f => { f with tripped := true }) 0 = true ∧
    (after .scanCompletion ((scanning frame ⟨.ok, 0, 0⟩).modFeed 0 fun f => { f with tripped := true })).osu.chains[
      (0 : Fin 48)] = ⟨.ok, 0, 0⟩ := by decide +kernel

theorem test_chain_fault_and_recovery :
    (after (.chainFault 0) (scanning frame ⟨.suspect, 1, 0⟩)).osu.chains[(0 : Fin 48)] = ⟨.suspect, 1, 0⟩ ∧
    (after (.chainFault 0) (scanning frame ⟨.suspect, 2, 0⟩)).osu.chains[(0 : Fin 48)] = ⟨.fault, 0, 0⟩ ∧
    (after (.chainRecover 0) (scanning (answered 4 2) ⟨.fault, 0, 6⟩)).osu.chains[(0 : Fin 48)] = ⟨.fault, 0, 6⟩ ∧
    (after (.chainRecover 0) (scanning (answered 4 2) ⟨.fault, 0, 7⟩)).osu.chains[(0 : Fin 48)] = ⟨.ok, 0, 0⟩ := by
  decide +kernel

theorem test_scan_modes :
    reply .setDark 96 [] (scanning frame ⟨.fault, 0, 1⟩) = some (.ok, .standing .dark) ∧
    (served .setDark 96 [] (scanning frame ⟨.fault, 0, 1⟩)).osu.chains[(0 : Fin 48)] = ⟨.ok, 0, 0⟩ ∧
    reply .setDark 96 [] { base with osu := { base.osu with standing := .dark } } = some (.ok, .standing .dark) ∧
    reply .setLit 97 [] base = some (.ok, .standing .lit) ∧ reply .testFrame 98 [] base = some (.ok, .empty) ∧
    refused .testFrame 98 [] { base with osu := { base.osu with testPending := true } } .state = true := by
  decide +kernel

/-! ## Composition -/

/-- A composition under way in a phase, number 5, with chain 0 seen OK and the given queries. -/
def composing (p : CompPhase) (q : List ZoneId) (s : State) : State :=
  { s with
    osu := { s.osu with seq := 5 }
    cmp := { s.cmp with comp := { Composition.idle with
      phase := p, num := 5, chainOk := upd Composition.idle.chainOk 0 fun _ => true, queries := q } } }

theorem test_adoptionPoint :
    let s := composing .begun [] ((base.modZone 0 fun r => { r with pending := some .gap, recorded := true }).modZone 1
      fun r => { r with current := .gap, gapLeft := 1, stack := { r.stack with takeover := some (1, .clock) } })
    let t := after .adoptionPoint s
    s.inRun = true ∧ s.followerOf 15 = none ∧ adopts s 0 = true ∧ adopts s 1 = true ∧
    (t.zones[(0 : Fin 16)]).current = .gap ∧ (t.zones[(0 : Fin 16)]).pending = none ∧
    (t.zones[(0 : Fin 16)]).shown = true ∧ (t.zones[(0 : Fin 16)]).start = 5 ∧
    (t.zones[(1 : Fin 16)]).current = .clock ∧ (t.zones[(1 : Fin 16)]).gapLeft = 0 ∧
    ((after (.gapEnd 1) s).zones[(1 : Fin 16)]).current = .clock ∧
    ((after .adoptionPoint (s.modZone 1 fun r => { r with gapLeft := 2 })).zones[(1 : Fin 16)]).gapLeft = 1 ∧
    ((after .adoptionPoint (s.modZone 1 fun r => { r with pending := some .clock })).zones[(1 : Fin 16)]).current =
      .clock ∧
    ((after .adoptionPoint { s with mse := { s.mse with emergency := .linkEvac 9 } }).zones[(15 : Fin 16)]).current =
      .evac 9 ∧
    ((after .adoptionPoint { s with mse := { s.mse with emergency := .alarmHeld } }).zones[(15 : Fin 16)]).current =
      .evac 0 := by decide +kernel

/-- Z15's start frame: set when it shows an asset it did not show, kept with the asset it shows. -/
theorem test_evacuation_start :
    let s := composing .begun [] base
    let start := fun (e : Emergency) (shown : Content) =>
      ((after .adoptionPoint ({ s with mse := { s.mse with emergency := e } }.modZone 15 fun r =>
        { r with current := shown, start := 2 })).zones[(15 : Fin 16)]).start
    start (.linkEvac 9) .none = 5 ∧ start (.linkEvac 9) (.evac 8) = 5 ∧ start (.linkEvac 9) (.evac 9) = 2 ∧
    start .alarmEvac (.evac 9) = 5 ∧ start .alarmEvac (.evac 0) = 2 ∧ start .alarmHeld (.evac 0) = 2 ∧
    s.cfl.image.alarm.asset = 0 := by decide +kernel

/-- A cue of two frames, each shown twice. -/
def cue : Cue :=
  { id := 3, clip := 6, first := 10, count := 2, rate := 2, loop := false, zone := 0, level := 200, attribution := none,
    dropped := false, state := .playing, position := 0, repeats := 0, freeze := 0, expected := 11, firstListed := some 1,
    lastListed := none, listed := 0 }

/-- The slot that holds its first frame. -/
def slot : Slot :=
  { cue := 3, clip := 6, frame := 10, width := 0, height := 0, load := 0, data := [], readMark := false,
    freeHeld := false }

/-- The cue active on Z0's lane with its frame in slot 7. -/
def playing (q : Cue) (s : State) : State :=
  { s.modZone 0 fun r => { r with current := .clip 3 200, stack := { r.stack with replay := some (0, .clip 3 200) } } with
    cqs := { s.cqs with slots := [(7, slot)], queue := [q], lanes := upd s.cqs.lanes 0 fun _ => some 3,
                        streamUp := true, credits := 119 } }

theorem test_clip_queries :
    let s := fun q => composing .advancing [0] (playing q base)
    let frozen := fun n => { cue with state := .frozen, freeze := n }
    (s cue).answer 0 = none ∧ (s cue).slotWith 3 10 = some 7 ∧ (s cue).slot 7 = some slot ∧
    ((after (.clipFrameQuery 0) (s cue)).cmp.holds[(0 : Fin 16)]).map (·.frame) = some 10 ∧
    (after (.clipFrameQuery 0) (s cue)).cmp.taken = [⟨0, 7, 3⟩] ∧
    ((after (.clipFrameQuery 0) (s cue)).slot 7).map (·.readMark) = some true ∧
    ((after (.clipFrameQuery 0) (s (frozen 0))).cue 3).map (·.freeze) = some 1 ∧
    (after (.freezeLimitAbort 0) (s (frozen 1))).cue 3 = none ∧
    (after (.clipFrameQuery 0) (s (frozen 1))) = after (.freezeLimitAbort 0) (s (frozen 1)) ∧
    after (.freezeLimitAbort 0) (s (frozen 0)) = s (frozen 0) := by decide +kernel

/-- A cue shown with its frame, or FROZEN below the limit, is listed while it holds its attribution, to the end of the
count. -/
theorem test_clip_listing :
    let s := fun q => composing .advancing [0] (playing q base)
    let held := { cue with attribution := some 1, lastListed := some 4, listed := 3 }
    let frozen := { held with state := .frozen, freeze := 0 }
    let cueAfter := fun q => (after (.clipFrameQuery 0) (s q)).cue 3
    cueAfter held = some { held with lastListed := some 5, listed := 4 } ∧ cueAfter cue = some cue ∧
    cueAfter { held with listed := 4294967295 } = some { held with lastListed := some 5, listed := 4294967295 } ∧
    cueAfter frozen = some { frozen with freeze := 1, lastListed := some 5, listed := 4 } ∧
    cueAfter { frozen with attribution := none } = some { frozen with attribution := none, freeze := 1 } := by
  decide +kernel

/-- The first frame of the cue shown, its taken report under way. -/
def reported (q : Cue) : State :=
  let s := playing q base
  { s with cmp := { s.cmp with taken := [⟨0, 7, 3⟩] }, cqs := { s.cqs with slots := [(7, { slot with readMark := true })] } }

theorem test_taken_reports :
    let one := { cue with rate := 1 }
    let loops := { one with loop := true }
    (reported cue).taken 0 = some ⟨0, 7, 3⟩ ∧ slotsOk (reported cue).cqs.slots = true ∧
    (after (.clipTakenReport 0) (reported cue)).cue 3 = some { cue with repeats := 1 } ∧
    (after (.clipTakenReport 0) (reported cue)).slot 7 = some slot ∧
    after (.frameRepeatEnd 0) (reported cue) = reported cue ∧
    (after (.frameRepeatEnd 0) (reported one)).cue 3 = some { one with position := 1 } ∧
    (after (.frameRepeatEnd 0) (reported one)).slot 7 = none ∧
    (after (.frameRepeatEnd 0) (reported one)).cqs.credits = 120 ∧
    (after (.frameRepeatEnd 0) (reported loops)).slot 7 = some slot ∧
    (after (.frameRepeatEnd 0) (reported { loops with position := 1 })).cue 3 = some loops ∧
    (after (.cueDone 0) (reported { one with position := 1 })).cue 3 = none ∧
    (after (.cueDone 0) (reported { one with position := 1 })).slot 7 = none ∧
    after (.cueDone 0) (reported one) = reported one := by decide +kernel

/-- A composition ready for its plan: Z0 shows a clip frame of load 100 at level 200 (FREE), Z3 a clock (HELD). -/
def toPlan (budget derate : Nat) : State :=
  let s := composing .ready [] (playing cue base)
  let s := { s with cmp := { s.cmp with holds := upd s.cmp.holds 0 fun _ => some ⟨6, 10, 1, 1, 100, []⟩ } }
  let z := { zone .clock with col := 1 }
  let im := { image with zones := upd image.zones 3 fun _ => z }
  { (s.modZone 3 fun r => { r with shown := true, current := .clock }).modFeed 0
      fun f => { f with budget := budget, derate := derate } with cfl := { s.cfl with image := im } }

/-- Full level, a share, nothing left by HELD content, and a budget of 0. -/
theorem test_planAllocation :
    let plan := fun b d => (after .planAllocation (toPlan b d)).fmn.lva.feeds[(0 : Fin 4)]
    ((toPlan 1 256).fmn.feeds[(0 : Fin 4)]).tripped = false ∧
    plan 1 256 = ⟨.normal, 1, 32640, 20000, 256⟩ ∧
    plan 1 128 = ⟨.derated, 0, 32640, 20000, 0⟩ ∧ plan 0 256 = ⟨.normal, 0, 32640, 20000, 0⟩ ∧
    (after .planAllocation (toPlan 1 256)).cmp.comp.phase = .planned ∧
    (after .planAllocation (toPlan 1 256)).fmn.lva.num = 5 := by decide +kernel

/-- A share below 256: capacity 65,025, HELD 64,000, FREE 2,000. -/
theorem test_scale_shared :
    scaleOf 1 64000 2000 = 131 ∧ scaleOf 1 65025 1 = 0 ∧ scaleOf 1 65024 1 = 256 ∧ scaleOf 0 0 0 = 256 := by decide

/-- The composition planned, Z2 showing an airing of one frame. -/
def planned : State :=
  let a : Airing := { id := 8, phase := .pending, source := .ring, spot := none, contract := 1, asset := 9, duration := 1,
                      level := 200, frames := 0, first := none, last := none, cut := none }
  let s := base.modZone 2 fun r => { r with current := a.content }
  let r : RotZone := { cursor := none, airing := some a, ending := [], hold := false, fallbackShown := false }
  let s := composing .planned [] { s with rot := { s.rot with zones := upd s.rot.zones 2 fun _ => some r } }
  s.modComp fun c => { c with plan := [{ zone := 2, level := 200, load := 9, held := false,
                                         visible := #v[1, 0, 0, 0], area := 1, applied := 150 }] }

theorem test_compositionEnd :
    let t := after (.compositionEnd .rotFirst) planned
    planned.inRun = true ∧ t.cmp.comp.phase = .idle ∧ t.osu.built.map (·.record) = some
      ⟨5, false, [{ zone := 2, key := .airing 8, contract := 1, area := 1, visible := 1, level := 150 }]⟩ ∧
    t.cmp.lastPlan.num = 5 := by decide +kernel

theorem test_airingComplete :
    (planned.airing 2).map (fun a => a.frames + 1 == a.duration) = some true ∧
    (after (.airingComplete 2 .mseFirst) planned).airing 2 = none ∧
    ((after (.airingComplete 2 .mseFirst) planned).exu.records).map (·.mark.map (·.outcome)) = [some .complete] ∧
    after (.airingComplete 1 .mseFirst) planned = planned := by decide +kernel

/-- A message of two showings. -/
def message : Message :=
  { id := 4, source := 3, cls := .info, asset := 9, level := 255, duration := 6, repeats := 2, whenStopped := false,
    expiry := none, expired := false }

theorem test_messageShowingEnd :
    let s := fun (n : Nat) (m : Message) => { planned with mse := { planned.mse with display := some ⟨m, n⟩ } }
    (after (.messageShowingEnd .rotFirst) (s 1 message)).mse.display = some ⟨{ message with repeats := 1 }, 6⟩ ∧
    (after (.messageShowingEnd .rotFirst) (s 1 { message with repeats := 1 })).mse.display = none ∧
    after (.messageShowingEnd .rotFirst) (s 2 message) = s 2 message := by decide +kernel

/-! ## Ticks -/

theorem test_msTick :
    let down := withClock 0 (clock .running 2) base
    let last := withClock 0 { clock .running 1 with horn := true } { base with csu := { base.csu with period := some 2 } }
    (after (.msTick quiet) State.reset) = State.reset ∧
    ((after (.msTick quiet) down).csu.clocks[(0 : Fin 3)]).value = 1 ∧
    ((after (.msTick quiet) (withClock 1 { clock .running 5 with linked := true } base)).csu.clocks[(1 : Fin 3)]).value =
      5 ∧
    ((after (.msTick quiet) (withClock 1 { clock .running 5 with dir := .up } base)).csu.clocks[(1 : Fin 3)]).value = 6 ∧
    ((after (.clockExpiry 0 quiet) last).csu.clocks[(0 : Fin 3)]).state = .expired ∧
    (after (.clockExpiry 0 quiet) last).csu.hornTime = 2000 ∧
    (after (.clockExpiry 0 quiet) last).csu.score[(2 : Fin 16)] = 1 ∧
    after (.clockExpiry 0 quiet) down = down := by decide +kernel

theorem test_hornEnd :
    let s := fun n => { base with csu := { base.csu with hornTime := n, hornLine := true } }
    (after (.hornEnd quiet) (s 1)).csu.hornLine = false ∧ after (.hornEnd quiet) (s 2) = s 2 ∧
    (after (.msTick quiet) (s 2)).csu.hornTime = 1 ∧ (after (.msTick quiet) (s 2)).csu.hornLine = true := by
  decide +kernel

/-- The stop line with a filter time of 3 ms: the fourth sample is accepted. -/
theorem test_stopLineAccept :
    let s := fun n => withClock 0 (clock .running 100) { base with csu := { base.csu with stopFilter := 3, stopRun := n } }
    let i := { quiet with stopLine := true }
    (after (.msTick quiet) (s 2)).csu.stopRun = 0 ∧ (after (.msTick i) (s 2)).csu.stopRun = 3 ∧
    after (.stopLineAccept i) (s 2) = s 2 ∧ (after (.stopLineAccept i) (s 3)).csu.stopLevel = true ∧
    (after (.stopLineAccept i) (s 3)).csu.capture = some 102 ∧
    ((after (.stopLineAccept i) (s 3)).csu.clocks[(0 : Fin 3)]).state = .stopped ∧ ¬expires (s 3) 0 := by decide +kernel

/-- The alarm line with a filter time of 10 ms: the tenth sample is accepted. -/
theorem test_alarmLineAccept :
    let s := fun n e => { base with mse := { base.mse with alarmRun := n, emergency := e, display := some ⟨message, 6⟩ } }
    let i := { quiet with alarmLine := true }
    (after (.msTick quiet) (s 8 .none)).mse.alarmRun = 0 ∧ (after (.msTick i) (s 8 .none)).mse.alarmRun = 9 ∧
    after (.alarmLineAccept i) (s 8 .none) = s 8 .none ∧
    (after (.alarmLineAccept i) (s 9 .none)).mse.emergency = .alarmEvac ∧
    (after (.alarmLineAccept i) (s 9 .none)).mse.display = none ∧
    (after (.alarmLineAccept i) (s 9 .none)).rot.zones[(0 : Fin 16)].map (·.hold) = some true ∧
    (let held := { s 9 .alarmEvac with mse := { (s 9 .alarmEvac).mse with alarmLevel := true } }
     (after (.alarmLineAccept quiet) held).mse.emergency = .alarmHeld) := by decide +kernel

theorem test_messageExpiry :
    let s := fun e => { base with mse := { base.mse with queue := [{ message with expiry := some e }] } }
    let shown := { base with mse := { base.mse with display := some ⟨{ message with expiry := some 1 }, 6⟩ } }
    (after (.msTick quiet) (s 2)).mse.queue = [{ message with expiry := some 1 }] ∧
    (after (.messageExpiry 4 3 quiet) (s 1)).mse.queue = [] ∧ after (.messageExpiry 4 3 quiet) (s 2) = s 2 ∧
    (after (.messageExpiry 4 3 quiet) shown).mse.display.map (·.message.expired) = some true := by decide +kernel

/-- The part with a write RECEIVING. -/
def writing (n : Nat) (d : List Byte) (idle : Nat) : State :=
  { base with cfl := { base.cfl with staging := .receiving 0 n d idle } }

theorem test_writeIdleTimeout :
    (after (.msTick quiet) (writing 64 [] 29998)).cfl.staging = .receiving 0 64 [] 29999 ∧
    (after (.writeIdleTimeout quiet) (writing 64 [] 29999)).cfl.staging = .idle ∧
    after (.writeIdleTimeout quiet) (writing 64 [] 29998) = writing 64 [] 29998 := by decide +kernel

/-! ## Clock and score requests -/

theorem test_setClock :
    refused .setClock 32 [0, 0, 0, 0, 5] (withClock 0 (clock .running 9) base) .state = true ∧
    reply .setClock 32 [2, 0, 0, 0, 5] base = some (.ok, .clockValue 5) ∧
    reply .setClock 32 [2, 255, 255, 255, 255] base = some (.ok, .clockValue 5999999) ∧
    ((served .setClock 32 [2, 0, 0, 0, 5] (withClock 2 { clock .expired 0 with warning := 4 } base)).csu.clocks[
      (2 : Fin 3)]) = { clock .set 5 with warning := 4, armed := true } := by decide +kernel

theorem test_startClock :
    let s := withClock 0 (clock .set 9) (withClock 1 { clock .stopped 5 with linked := true } base)
    ¬(base.csu.clocks[(0 : Fin 3)]).startable ∧ refused .startClock 33 [0] base .state = true ∧
    refused .startClock 33 [2] (withClock 2 (clock .expired 0) base) .state = true ∧
    refused .startClock 33 [2] (withClock 2 (clock .running 7) base) .state = true ∧
    reply .startClock 33 [0] s = some (.ok, .clocksStarted [0, 1]) ∧
    ((served .startClock 33 [0] s).csu.clocks[(1 : Fin 3)]).state = .running ∧
    reply .startClock 33 [2] (withClock 2 (clock .stopped 7) base) = some (.ok, .empty) := by decide +kernel

theorem test_stopClock :
    let s := withClock 0 (clock .running 9) (withClock 1 { clock .running 5 with linked := true } base)
    refused .stopClock 34 [0] base .state = true ∧ reply .stopClock 34 [0] s = some (.ok, .clockValue 9) ∧
    ((served .stopClock 34 [0] s).csu.clocks[(1 : Fin 3)]).state = .stopped ∧
    reply .stopClock 34 [1] s = some (.ok, .clockValue 5) := by decide +kernel

/-- The deltas −600,001, −600,000, 600,000 and 600,001, and an EXPIRED clock moved. -/
theorem test_adjustClock :
    refused .adjustClock 35 [0, 255, 246, 216, 63] base .range = true ∧
    reply .adjustClock 35 [0, 255, 246, 216, 64] base = some (.ok, .clockValueState 0 .set) ∧
    reply .adjustClock 35 [0, 0, 9, 39, 192] base = some (.ok, .clockValueState 600000 .set) ∧
    refused .adjustClock 35 [0, 0, 9, 39, 193] base .range = true ∧
    refused .adjustClock 35 [0, 0, 0, 0, 1] (withClock 0 (clock .running 9) base) .state = true ∧
    reply .adjustClock 35 [0, 0, 0, 0, 1] (withClock 0 (clock .expired 0) base) =
      some (.ok, .clockValueState 1 .stopped) := by decide +kernel

theorem test_resetShot :
    reply .resetShot 36 [] base = some (.ok, .empty) ∧
    (served .resetShot 36 [] (withClock 1 { clock .expired 0 with reset := 24000 } base)).csu.clocks[(1 : Fin 3)] =
      { clock .set 24000 with reset := 24000 } ∧
    ((served .resetShot 36 [] (withClock 1 { clock .running 3 with reset := 24000 } base)).csu.clocks[(1 : Fin 3)]).state =
      .running := by decide +kernel

theorem test_applyCapture :
    let s := { base with csu := { base.csu with capture := some 7 } }
    refused .applyCapture 37 [] (withClock 0 (clock .running 9) s) .state = true ∧
    refused .applyCapture 37 [] base .unknown = true ∧ base.gameRunning = false ∧
    reply .applyCapture 37 [] s = some (.ok, .clockValue 7) ∧ (served .applyCapture 37 [] s).csu.capture = none := by
  decide +kernel

theorem test_horn :
    reply .horn 38 [0, 99] base = some (.ok, .hornTaken 100) ∧
    reply .horn 38 [19, 136] base = some (.ok, .hornTaken 5000) ∧
    reply .horn 38 [19, 137] base = some (.ok, .hornTaken 5000) ∧
    (served .horn 38 [1, 0] base).csu.hornLine = true := by decide +kernel

/-- A ring of one spot and a trigger table entry for counter 0. -/
def withTrigger (s : State) : State :=
  { s with rot := { s.rot with
    ring := [⟨5, 1, 9, .sponsor, 4, .any, 200⟩], triggers := upd s.rot.triggers 0 fun _ => some ⟨.scoreUp 0, 5⟩ } }

theorem test_setScore :
    refused .setScore 39 [0, 3, 232] base .range = true ∧
    reply .setScore 39 [0, 3, 231] base = some (.ok, .scoreValue 999) ∧
    (served .setScore 39 [0, 0, 1] (withTrigger base)).rot.insert.length = 1 ∧
    (served .setScore 39 [0, 0, 0] (withTrigger base)).rot.insert = [] := by decide +kernel

/-- The deltas 100, −100, 99 and −99. -/
theorem test_addScore :
    refused .addScore 40 [0, 100] base .range = true ∧ refused .addScore 40 [0, 156] base .range = true ∧
    reply .addScore 40 [15, 99] base = some (.ok, .scoreValue 99) ∧
    reply .addScore 40 [0, 157] base = some (.ok, .scoreValue 0) ∧
    reply .addScore 40 [0, 1] busy = some (.ok, .scoreValue 999) := by decide +kernel

/-! ## Zones and status reads -/

theorem test_show_and_hide :
    refused .showZone 41 [0] base .range = true ∧ refused .hideZone 42 [2] base .range = true ∧
    reply .showZone 41 [3] base = some (.ok, .empty) ∧
    (served .showZone 41 [3] base).zones[(3 : Fin 16)].pending = some .clock ∧
    (served .showZone 41 [4] base).zones[(4 : Fin 16)].pending = some .score ∧
    reply .hideZone 42 [4] base = some (.ok, .empty) ∧
    (served .hideZone 42 [4] (base.modZone 4 fun r => { r with recorded := true })).zones[(4 : Fin 16)].recorded =
      false := by decide +kernel

/-- Level 2 of a zone held by a link. -/
def taken (z : ZoneId) (l : Link) : State :=
  base.modZone z fun r => { r with stack := { r.stack with takeover := some (l, .clock) } }

theorem test_takeover :
    base.isMain 2 = false ∧ refused .takeover 43 [2] base .range = true ∧
    refused .takeover 43 [0] (taken 0 1) .held = true ∧ reply .takeover 43 [0] base = some (.ok, .top true) ∧
    (served .takeover 43 [0] base).zones[(0 : Fin 16)].pending = some .clock ∧
    (served .takeover 43 [1] base).zones[(1 : Fin 16)].pending = some .gap ∧
    reply .takeover 43 [0] (taken 0 0) = some (.ok, .top true) ∧
    reply .takeover 43 [0] (base.modZone 0 fun r => { r with stack := { r.stack with alert := some .none } }) =
      some (.ok, .top false) := by decide +kernel

theorem test_releaseTakeover :
    refused .releaseTakeover 44 [0] base .state = true ∧ refused .releaseTakeover 44 [0] (taken 0 1) .state = true ∧
    refused .releaseTakeover 44 [2] base .range = true ∧
    reply .releaseTakeover 44 [1] (taken 1 0) = some (.ok, .empty) ∧
    (served .releaseTakeover 44 [1] (taken 1 0)).zones[(1 : Fin 16)].pending = some .gap := by decide +kernel

/-- Each status read at its first and last number. -/
theorem test_status_reads :
    reply .monitorStatus 3 [] base = some (.ok, .monitorStatus (monitorReport base)) ∧
    reply .planStatus 5 [] base = some (.ok, .planStatus base.cmp.lastPlan) ∧
    reply .clockStatus 6 [] base = some (.ok, .clockStatus (clockReport base)) ∧
    reply .messageStatus 8 [] base = some (.ok, .messageStatus (messageReport base)) ∧
    reply .zoneStatus 4 [0] base = some (.ok, .zoneStatus (zoneReport 0 base)) ∧
    reply .zoneStatus 4 [15] base = some (.ok, .zoneStatus (zoneReport 15 base)) ∧
    (reply .rotationStatus 9 [127] base).map (·.1) = some .ok ∧
    reply .readContract 85 [63] base = some (.ok, .bytes (contractReport 63 Contract.unused)) ∧
    reply .assetStatus 21 [1, 255] base = some (.ok, .assetStatus (assetReport 511 base)) := by decide +kernel

theorem test_cueStatus :
    let s := { base with cqs := { base.cqs with violation := true } }
    s.owner = some 0 ∧ reply .cueStatus 7 [] s = some (.ok, .cueStatus (cueReport s)) ∧
    (served .cueStatus 7 [] s).cqs.violation = false ∧
    (let t := s.modLink 1 fun ls => { ls with executing := .running ⟨7, 7, []⟩ false }
     t.owner ≠ some 1 ∧ (after (.cueStatus 1) t).cqs.violation = true) := by decide +kernel

/-! ## Assets -/

/-- Asset 9 as given. -/
def withAsset (b : AssetBody) (refs : Nat) : State :=
  { base with ast := { directory := [(9, { body := b, refs := refs })], freeBlocks := 4095 } }

/-- A load of CL0, or of CL1, with some bytes received. -/
def load (l : Link) (got : List Byte) : AssetBody := .loading ⟨1, 1, 1, 1⟩ l got (byteSum got)

theorem test_assetBegin :
    refused .assetBegin 16 [0, 7, 1, 1, 1, 1] base .denied = true ∧
    refused .assetBegin 16 [1, 245, 1, 1, 1, 1] base .denied = true ∧
    refused .assetBegin 16 [1, 244, 65, 1, 1, 1] base .range = true ∧
    refused .assetBegin 16 [0, 8, 1, 33, 1, 1] base .range = true ∧
    refused .assetBegin 16 [0, 9, 1, 1, 1, 0] base .range = true ∧
    refused .assetBegin 16 [0, 9, 1, 1, 1, 1] (withAsset (load 1 []) 0) .inUse = true ∧
    refused .assetBegin 16 [0, 9, 1, 1, 1, 1] (withAsset (.ready ⟨1, 1, 1, 1⟩ [1] 9) 1) .inUse = true ∧
    refused .assetBegin 16 [0, 9, 1, 1, 1, 1] { base with ast := ⟨[], 0⟩ } .noSpace = true ∧
    reply .assetBegin 16 [0, 9, 64, 32, 64, 255] base = some (.ok, .assetBegun 402653184 3072) ∧
    (served .assetBegin 16 [0, 9, 1, 1, 1, 1] base).asset 9 = { body := load 0 [], refs := 0 } ∧
    (served .assetBegin 16 [0, 9, 1, 1, 1, 1] (withAsset (.ready ⟨1, 1, 1, 1⟩ [1] 9) 0)).ast.freeBlocks = 4095 := by
  decide +kernel

theorem test_assetData :
    refused .assetData 17 [0, 9, 0, 0, 0, 0, 1] base .state = true ∧
    refused .assetData 17 [0, 9, 0, 0, 0, 0, 1] (withAsset (load 1 []) 0) .state = true ∧
    reply .assetData 17 [0, 9, 0, 0, 0, 1, 1] (withAsset (load 0 []) 0) = some (.form, .bytesReceived 0) ∧
    refused .assetData 17 [0, 9, 0, 0, 12, 0, 1] (withAsset (load 0 (List.replicate 3072 1)) 0) .form = true ∧
    reply .assetData 17 [0, 9, 0, 0, 11, 255, 3] (withAsset (load 0 (List.replicate 3071 1)) 0) =
      some (.ok, .bytesReceived 3072) := by decide +kernel

theorem test_assetEnd_abort_delete :
    let whole := withAsset (load 0 (List.replicate 3072 7)) 0
    refused .assetEnd 18 [0, 9] base .state = true ∧ refused .assetAbort 19 [0, 9] (withAsset (load 1 []) 0) .state = true ∧
    reply .assetEnd 18 [0, 9] whole = some (.ok, .loadFigure 7) ∧ directoryOk whole.ast.directory = true ∧
    reply .assetEnd 18 [0, 9] (withAsset (load 0 []) 0) = some (.form, .empty) ∧
    (served .assetEnd 18 [0, 9] (withAsset (load 0 []) 0)).ast = { directory := [], freeBlocks := 4096 } ∧
    reply .assetAbort 19 [0, 9] whole = some (.ok, .empty) ∧
    (served .assetAbort 19 [0, 9] whole).ast = { directory := [], freeBlocks := 4096 } ∧
    refused .assetDelete 20 [0, 7] base .denied = true ∧ refused .assetDelete 20 [0, 9] base .unknown = true ∧
    refused .assetDelete 20 [0, 9] whole .state = true ∧
    refused .assetDelete 20 [0, 9] (withAsset (.ready ⟨1, 1, 1, 1⟩ [1] 9) 1) .inUse = true ∧
    reply .assetDelete 20 [0, 9] (withAsset (.ready ⟨1, 1, 1, 1⟩ [1] 9) 0) = some (.ok, .empty) ∧
    (served .assetDelete 20 [0, 9] (withAsset (.ready ⟨1, 1, 1, 1⟩ [1] 9) 0)).ast.freeBlocks = 4096 := by
  decide +kernel

/-! ## Replay -/

/-- The stream UP with some credits. -/
def stream (n : Nat) (s : State) : State := { s with cqs := { s.cqs with streamUp := true, credits := n } }

/-- A cue still filling, that wants frames 10 and 11. -/
def filling : Cue := { cue with state := .queued, expected := 10, firstListed := none }

/-- A clip frame of one tile. -/
def clip (c n : Nat) : ClipFrame := ⟨c, n, 1, 1, List.replicate 3072 5⟩

theorem test_clipFrameArrival :
    let s := stream 120 { base with cqs := { base.cqs with queue := [filling] } }
    let late := stream 120 { base with cqs := { base.cqs with queue := [{ filling with expected := 11 }] } }
    (after (.clipFrameArrival (clip 6 10)) base).cqs.discards = 1 ∧
    (after (.clipFrameArrival (clip 6 10)) (stream 0 base)).cqs.violation = true ∧
    (after (.clipFrameArrival ⟨6, 10, 2, 1, []⟩) s).cqs.discards = 1 ∧
    (after (.clipFrameArrival (clip 6 12)) s).cqs.discards = 1 ∧ filling.wants 6 12 = false ∧
    (after (.clipFrameArrival (clip 6 10)) late).cqs.lane = [.grant] ∧
    lowestFree 120 0 s.cqs.slots = some 0 ∧
    ((after (.clipFrameArrival (clip 6 10)) s).slot 0).map (fun sl => (sl.cue, sl.frame, sl.load)) = some (3, 10, 5) ∧
    (after (.clipFrameArrival (clip 6 10)) s).cqs.credits = 119 ∧
    ((after (.clipFrameArrival (clip 6 11)) s).cue 3).map (·.expected) = some 12 := by decide +kernel

/-- A FROZEN cue returns to PLAYING with freeze count 0 at the frame it needs, and stays FROZEN at another. -/
theorem test_frozen_cue_returns :
    let iced := { filling with state := .frozen, freeze := 1 }
    let s := stream 120 { base with cqs := { base.cqs with queue := [iced] } }
    s.cqs.queue.find? (fun q => q.wants 6 10) = some iced ∧ s.cue 3 = some iced ∧
    (after (.clipFrameArrival (clip 6 10)) s).cue 3 = some { filling with state := .playing, freeze := 0, expected := 11 } ∧
    (after (.clipFrameArrival (clip 6 11)) s).cue 3 = some { iced with expected := 12 } := by decide +kernel

/-- Byte by byte: cue 3, clip 6, first 10, count 2, rate 1, loop, zone, level 200, attribution. -/
def cuePayload (count rate loop zone att : Nat) : List Nat := [3, 0, 6, 0, 10, 0, count, rate, loop, zone, 200, att]

theorem test_queueCue :
    refused .queueCue 48 (cuePayload 0 1 0 0 255) base .range = true ∧
    refused .queueCue 48 (cuePayload 2 0 0 0 255) base .range = true ∧
    refused .queueCue 48 (cuePayload 2 9 0 0 255) base .range = true ∧
    refused .queueCue 48 (cuePayload 121 1 1 0 255) base .range = true ∧
    refused .queueCue 48 (cuePayload 2 1 0 16 255) base .range = true ∧
    refused .queueCue 48 (cuePayload 2 1 0 0 64) base .range = true ∧
    refused .queueCue 48 [3, 0, 6, 255, 255, 0, 2, 1, 0, 0, 200, 255] base .range = true ∧
    refused .queueCue 48 (cuePayload 2 1 0 2 255) base .range = true ∧
    refused .queueCue 48 (cuePayload 2 1 0 0 1) base .unknown = true ∧
    refused .queueCue 48 (cuePayload 2 1 0 0 255) { base with cqs := { base.cqs with queue := [filling] } } .inUse = true ∧
    refused .queueCue 48 (cuePayload 2 1 0 0 255)
      { base with cqs := { base.cqs with queue := List.replicate 8 { filling with id := 4 } } } .full = true ∧
    reply .queueCue 48 (cuePayload 120 8 1 1 1) (withContract opened base) = some (.ok, .count 1) ∧
    (served .queueCue 48 (cuePayload 120 8 1 1 1) (withContract opened base)).exu.contracts[(1 : Fin 64)].refs = 1 := by
  decide +kernel

theorem test_play :
    let s := stream 120 { base with cqs := { base.cqs with queue := [filling] } }
    refused .play 49 [2] s .range = true ∧ refused .play 49 [0] (stream 120 base) .state = true ∧
    refused .play 49 [0] { s with cqs := { s.cqs with streamUp := false } } .state = true ∧
    refused .play 49 [0] { s with cqs := { s.cqs with lanes := upd s.cqs.lanes 0 fun _ => some 9 } } .state = true ∧
    refused .play 49 [0] (s.modZone 0 fun r => { r with stack := { r.stack with replay := some (1, .clock) } }) .held =
      true ∧
    s.nextCue 0 = some filling ∧ s.cue 3 = some filling ∧ reply .play 49 [0] s = some (.ok, .played 3 true) ∧
    (served .play 49 [0] s).cqs.lanes[(0 : Fin 16)] = some 3 ∧
    (served .play 49 [0] s).zones[(0 : Fin 16)].pending = some (.clip 3 200) ∧
    reply .play 49 [0] (s.modZone 0 fun r => { r with stack := { r.stack with takeover := some (1, .clock) } }) =
      some (.ok, .played 3 false) := by decide +kernel

theorem test_stop_and_flush :
    refused .stopCue 50 [3] base .unknown = true ∧ slotsOk (playing cue base).cqs.slots = true ∧
    reply .stopCue 50 [3] (playing cue base) = some (.ok, .empty) ∧
    (served .stopCue 50 [3] (playing cue base)).cue 3 = none ∧
    (served .stopCue 50 [3] (playing cue base)).slot 7 = none ∧
    reply .flush 51 [] (playing cue base) = some (.ok, .count 1) ∧
    (served .flush 51 [] (playing cue base)).cqs.lanes[(0 : Fin 16)] = none := by decide +kernel

/-! ## Messages and evacuation -/

/-- Byte by byte: id 4, class, asset 9, level 255, duration, repeats, condition, expiry. -/
def post (cls duration repeats condition expiry : Nat) : List Nat :=
  [0, 4, cls, 0, 9, 255, 0, duration, repeats, condition, expiry / 256, expiry % 256]

/-- Asset 9 READY and a queue. -/
def holding (q : List Message) : State :=
  { base with ast := { directory := [(9, ready q.length)], freeBlocks := 4095 }, mse := { base.mse with queue := q } }

theorem test_postMessage :
    refused .postMessage 64 (post 4 1 1 0 0) (holding []) .range = true ∧
    refused .postMessage 64 (post 0 0 1 0 0) (holding []) .range = true ∧
    refused .postMessage 64 (post 0 1 1 2 0) (holding []) .range = true ∧
    refused .postMessage 64 (post 2 1 1 0 3601) (holding []) .range = true ∧
    refused .postMessage 64 (post 0 1 1 0 0) (holding [{ message with source := 0 }]) .inUse = true ∧
    refused .postMessage 64 (post 0 1 1 0 0) (holding (List.replicate 32 message)) .full = true ∧
    refused .postMessage 64 (post 0 1 1 0 0) base .noAsset = true ∧
    reply .postMessage 64 (post 1 1 16 1 3600) (holding [message]) = some (.ok, .count 2) ∧
    (served .postMessage 64 (post 1 1 16 1 3600) (holding [message])).mse.queue.map (fun m => (m.repeats, m.expiry)) =
      [(15, some 3600000), (2, none)] ∧
    (served .postMessage 64 (post 0 1 0 1 3600) (holding [message])).mse.queue.map (·.repeats) = [2, 1] := by
  decide +kernel

theorem test_postEvacuate :
    let s := fun e => { holding [] with mse := { base.mse with emergency := e, display := some ⟨message, 6⟩ } }
    refused .postEvacuate 64 (post 3 0 1 0 0) (holding []) .range = true ∧
    refused .postEvacuate 64 (post 3 1 1 2 0) (holding []) .range = true ∧
    refused .postEvacuate 64 (post 3 1 1 0 3601) (holding []) .range = true ∧
    refused .postEvacuate 64 (post 3 1 1 0 0) (s .alarmEvac) .state = true ∧
    refused .postEvacuate 64 (post 3 1 1 0 0) (s .alarmHeld) .state = true ∧
    refused .postEvacuate 64 (post 3 1 1 0 0) base .noAsset = true ∧
    reply .postEvacuate 64 (post 3 1 1 0 0) (s .none) = some (.ok, .empty) ∧
    (served .postEvacuate 64 (post 3 1 1 0 0) (s .none)).mse.emergency = .linkEvac 9 ∧
    (served .postEvacuate 64 (post 3 1 1 0 0) (s .none)).mse.display = none ∧
    reply .postEvacuate 64 (post 3 1 1 0 0) (s (.linkEvac 8)) = some (.ok, .empty) := by decide +kernel

theorem test_clearEvacuate :
    let s := fun e => { base with mse := { base.mse with emergency := e } }
    refused .clearEvacuate 66 [] base .state = true ∧ refused .clearEvacuate 66 [] (s .alarmEvac) .state = true ∧
    reply .clearEvacuate 66 [] (s .alarmHeld) = some (.ok, .empty) ∧
    (served .clearEvacuate 66 [] (s (.linkEvac 9))).mse.emergency = .none := by decide +kernel

theorem test_cancelMessage :
    let mine := { message with source := 0 }
    let shown := fun m => { base with mse := { base.mse with display := some ⟨m, 6⟩ } }
    let alert := (shown { mine with cls := .alert }).modZone 0
      fun r => { r with stack := { r.stack with alert := some .none } }
    refused .cancelMessage 65 [0, 4] (holding [message]) .unknown = true ∧
    reply .cancelMessage 65 [0, 4] (holding [mine]) = some (.ok, .empty) ∧
    (served .cancelMessage 65 [0, 4] (holding [mine])).mse.queue = [] ∧
    (served .cancelMessage 65 [0, 4] (shown mine)).mse.display = none ∧ alert.alertZone = some 0 ∧
    (served .cancelMessage 65 [0, 4] alert).zones[(0 : Fin 16)].stack.alert = none := by decide +kernel

/-! ## Contracts, rotation, exposure -/

/-- Byte by byte: contract, category, minimum level, minimum visible, make-good, exclusion, target, holdback. -/
def terms (contract cat vis mg target holdback : Nat) : List Nat :=
  [contract, cat, 5, vis, mg, 0, 4, 0, 0, 0, target, 0, 0, 0, holdback]

theorem test_define :
    refused .define 80 (terms 1 32 0 0 9 0) base .range = true ∧
    refused .define 80 (terms 1 0 101 0 9 0) base .range = true ∧
    refused .define 80 (terms 1 0 0 101 9 0) base .range = true ∧
    refused .define 80 (terms 1 31 100 100 9 0) (withContract { opened with refs := 1 } base) .inUse = true ∧
    reply .define 80 (terms 63 31 100 100 9 10) base = some (.ok, .contractState .opened) ∧
    (served .define 80 (terms 63 31 100 100 9 10) base).exu.contracts[(63 : Fin 64)] =
      { Contract.unused with category := 31, target := 9, holdback := 9, minLevel := 5, minVisible := 100, makegood := 100,
                             exclusion := 4, state := .opened } ∧
    reply .define 80 (terms 0 0 0 0 0 0) base = some (.ok, .contractState .met) := by decide +kernel

theorem test_setTarget_setHoldback :
    refused .setTarget 81 [1, 0, 0, 0] base .form = true ∧ refused .setTarget 81 [64, 0, 0, 0, 1] base .range = true ∧
    refused .setTarget 81 [1, 0, 0, 0, 1] base .unknown = true ∧
    refused .setHoldback 82 [1, 0, 0, 0, 1] base .unknown = true ∧
    reply .setTarget 81 [1, 0, 0, 0, 1] (withContract { opened with holdback := 5 } base) =
      some (.ok, .contractTerms 1 1 .met) ∧
    reply .setTarget 81 [1, 0, 0, 0, 2] (withContract { opened with state := .met, target := 1 } base) =
      some (.ok, .contractTerms 2 0 .opened) ∧
    reply .setTarget 81 [1, 0, 0, 0, 1] (withContract { opened with state := .closed } base) =
      some (.ok, .contractTerms 1 0 .closed) ∧
    reply .setHoldback 82 [1, 0, 0, 0, 11] (withContract opened base) = some (.ok, .contractTerms 10 10 .opened) := by
  decide +kernel

theorem test_close_reopen :
    refused .close 83 [1] base .unknown = true ∧ refused .reopen 84 [1] base .unknown = true ∧
    reply .close 83 [1] (withContract opened base) = some (.ok, .empty) ∧
    refused .reopen 84 [1] (withContract { opened with state := .met } base) .state = true ∧
    refused .close 83 [1] (withContract { opened with state := .closed } base) .state = true ∧
    (served .reopen 84 [1] (withContract { opened with state := .closed } base)).exu.contracts[(1 : Fin 64)].state =
      .opened ∧
    (served .reopen 84 [1] (withContract { opened with state := .closed, earned := 10 } base)).exu.contracts[
      (1 : Fin 64)].state = .met := by decide +kernel

/-- Spot 5 of contract 1 on asset 9: SPONSOR, 4 frames, any time, level 200; with fields replaced. -/
def spotPayload (contract cls duration elig : Nat) : List Nat := [5, contract, 0, 9, cls, 0, duration, elig, 200]

theorem test_addSpot :
    let s := withContract opened (holding [])
    let ring := fun n => { s with rot := { s.rot with ring := List.replicate n ⟨6, 1, 9, .sponsor, 4, .any, 200⟩ } }
    refused .addSpot 86 (spotPayload 64 0 4 0) s .range = true ∧ refused .addSpot 86 (spotPayload 1 2 4 0) s .range = true ∧
    refused .addSpot 86 (spotPayload 1 0 0 0) s .range = true ∧ refused .addSpot 86 (spotPayload 1 0 4 3) s .range = true ∧
    refused .addSpot 86 (spotPayload 2 1 4 2) s .unknown = true ∧
    refused .addSpot 86 (spotPayload 1 0 4 0) (withTrigger s) .inUse = true ∧
    refused .addSpot 86 (spotPayload 1 0 4 0) (ring 128) .full = true ∧
    refused .addSpot 86 (spotPayload 1 0 4 0) (withContract opened base) .noAsset = true ∧
    reply .addSpot 86 (spotPayload 1 1 4 2) (ring 127) = some (.ok, .count 128) ∧
    ((served .addSpot 86 (spotPayload 1 1 4 2) s).asset 9).refs = 1 ∧
    (served .addSpot 86 (spotPayload 1 1 4 2) s).exu.contracts[(1 : Fin 64)].refs = 1 := by decide +kernel

theorem test_removeSpot :
    refused .removeSpot 87 [5] base .unknown = true ∧ reply .removeSpot 87 [5] (withTrigger base) = some (.ok, .count 0) ∧
    (served .removeSpot 87 [5] (withTrigger base)).rot.ring = [] := by decide +kernel

theorem test_triggers :
    refused .setTrigger 88 [0, 4, 0, 5] (withTrigger base) .range = true ∧
    refused .setTrigger 88 [0, 0, 16, 5] (withTrigger base) .range = true ∧
    refused .setTrigger 88 [0, 1, 3, 5] (withTrigger base) .range = true ∧
    refused .setTrigger 88 [0, 3, 3, 5] (withTrigger base) .range = true ∧
    refused .setTrigger 88 [7, 0, 15, 6] (withTrigger base) .unknown = true ∧
    (served .setTrigger 88 [7, 2, 9, 5] (withTrigger base)).rot.triggers[(7 : Fin 8)] = some ⟨.gameStopped, 5⟩ ∧
    refused .clearTrigger 89 [7] (withTrigger base) .state = true ∧
    reply .clearTrigger 89 [0] (withTrigger base) = some (.ok, .empty) ∧
    (served .clearTrigger 89 [0] (withTrigger base)).rot.triggers[(0 : Fin 8)] = none := by decide +kernel

/-- An event outside RUN, one that no entry has, and the ninth insert. -/
theorem test_triggerEvent :
    let nearly := fun n => { withTrigger base with rot := { (withTrigger base).rot with
      insert := List.replicate n ⟨1, 9, .sponsor, 4, 200⟩ } }
    (inState .safe base).inRun = false ∧ triggerEvent (.scoreUp 1) (withTrigger base) = withTrigger base ∧
    (triggerEvent (.scoreUp 0) (inState .safe (withTrigger base))).rot.insert = [] ∧
    (triggerEvent (.scoreUp 0) (nearly 7)).rot.insert.length = 8 ∧
    (triggerEvent (.scoreUp 0) (nearly 8)).rot.insert.length = 8 := by decide +kernel

/-- Half a tile, a saturated sum, one below saturation, and the target reached. -/
theorem test_credit :
    (({ opened with remainder := 254 } : Contract).credit 1 1) = ({ opened with earned := 2 }, 1) ∧
    (opened.credit 1 128) = ({ opened with remainder := 128 }, 0) ∧
    (({ opened with earned := 4294967295, state := .met } : Contract).credit 1 1).1 =
      { opened with earned := 4294967295, state := .met } ∧
    (({ opened with earned := 4294967290, state := .met, remainder := 9 } : Contract).credit 6 255).1 =
      { opened with earned := 4294967295, state := .met, remainder := 9 } ∧
    (({ opened with earned := 4294967290, state := .met, remainder := 9 } : Contract).credit 5 255).1 =
      { opened with earned := 4294967295, state := .met, remainder := 9 } ∧
    (opened.credit 9 255).1 = { opened with earned := 10, state := .met } := by decide +kernel

/-- Three log entries. -/
def logged : State :=
  let e : LogEntry := { id := 1, contract := 2, zone := 3, source := .ring, first := 4, last := 5, duration := 6,
                        frames := 7, delivered := 8, nominal := 9, outcome := .cut, queued := true, restart := false }
  { base with exu := { base.exu with log := [e, e, e], logLost := 4 } }

theorem test_readLog :
    refused .readLog 90 [0] logged .range = true ∧ refused .readLog 90 [17] logged .range = true ∧
    (reply .readLog 90 [1] logged).map (·.1) = some .ok ∧ (served .readLog 90 [1] logged).exu.log.length = 2 ∧
    (served .readLog 90 [16] logged).exu.log = [] ∧ (served .readLog 90 [16] logged).exu.logLost = 0 ∧
    reply .readLog 90 [1] logged = some (.ok, .bytes (bytes [1, 0, 2, 0, 4, 0, 0, 0, 1, 2, 3, 0, 1, 1, 0, 0, 0, 4, 0, 0,
      0, 5, 0, 6, 0, 0, 0, 7, 0, 0, 0, 8, 0, 0, 0, 9])) := by decide +kernel

/-! ## Feed monitoring -/

/-- Current channel 0 enabled: calibration 1, thresholds 100, 200, 300; and voltage channel 4: 100, 200, 300. -/
def sensing (f : Feed) : State :=
  let c : Channel := { enabled := true, selected := .low, effect := .low,
                       setting := .current ⟨1024, 100, 200, 300⟩ ⟨1024, 100, 200, 300⟩, last := none }
  let v : Channel := { enabled := true, selected := .low, effect := .low, setting := .voltage 1024 100 200 300,
                       last := none }
  ((base.modChannel 0 fun _ => c).modChannel 4 fun _ => v).modFeed 0 fun _ => f

/-- A scan whose conversions gave a current and a voltage. -/
def scanned (f : Feed) (i u : Nat) : State :=
  { sensing f with fmn := { (sensing f).fmn with scan := some { todo := [], values := [(0, i), (4, u)] } } }

/-- A feed with d_min 100, step 10, two stressing scans, two relieving scans. -/
def feed : Feed := { Feed.reset with budget := 100, dMin := 100, step := 10, nStress := 2, nRelief := 2 }

theorem test_conversion :
    let s := { sensing feed with fmn := { (sensing feed).fmn with scan := some { todo := [0, 4], values := [] } } }
    s.fmn.average = 1 ∧
    (after (.channelConversionEnd [4095]) s).fmn.scan = some { todo := [4], values := [(0, 4095)] } ∧
    after (.channelConversionEnd []) s = s ∧ after (.channelConversionEnd [4096]) s = s := by decide +kernel

/-- At the thresholds and one past them: a trip, a stressing and a relieving scan, and a feed already TRIPPED. -/
theorem test_monitorScanComplete :
    let judged := fun f i u => (after .monitorScanComplete (scanned f i u)).fmn.feeds[(0 : Fin 4)]
    ([((0 : ChannelId), 300), (4, 300)].map (·.1)).Nodup ∧
    (judged feed 300 300).tripped = false ∧ judged feed 301 300 = { feed with tripped := true, derate := 100 } ∧
    (after .monitorScanComplete (scanned feed 301 300)).osu.feedLines[(0 : Fin 4)] = false ∧
    (judged feed 150 99).tripped = false ∧ (judged { feed with tripRun := 1 } 150 99).tripped = true ∧
    (judged { feed with tripRun := 1 } 150 100).tripped = false ∧
    judged { feed with stressRun := 1 } 201 300 = { feed with derate := 246 } ∧
    judged { feed with stressRun := 1 } 200 300 = feed ∧
    judged { feed with derate := 250, reliefRun := 1 } 99 301 = feed ∧
    judged { feed with tripped := true } 99 301 = { feed with tripped := true } ∧
    ((after .monitorScanComplete (scanned feed 300 300)).fmn.channels[(4 : Fin 8)]).last = some 300 := by decide +kernel

theorem test_derateStep :
    stepDue (scanned { feed with stressRun := 1 } 201 300) { todo := [], values := [(0, 201), (4, 300)] } 0 = true ∧
    ((after (.derateStep 0) (scanned { feed with stressRun := 1 } 201 300)).fmn.feeds[(0 : Fin 4)]).derate = 246 ∧
    after (.derateStep 0) (scanned feed 201 300) = scanned feed 201 300 := by decide +kernel

theorem test_setRange :
    refused .setRange 99 [0, 2] base .range = true ∧ reply .setRange 99 [3, 1] base = some (.ok, .ranges .high .low) ∧
    ((served .setRange 99 [3, 1] base).fmn.channels[(3 : Fin 8)]).selected = .high := by decide +kernel

theorem test_releaseFeed :
    let tripped := fun (n : Option Nat) => ((sensing { feed with tripped := true, derate := 100 }).modChannel 0
      fun c => { c with last := n }).modChannel 4 fun c => { c with last := some 100 }
    refused .releaseFeed 100 [0] (sensing feed) .state = true ∧ refused .releaseFeed 100 [0] (tripped none) .state = true ∧
    refused .releaseFeed 100 [0] (tripped (some 301)) .state = true ∧
    reply .releaseFeed 100 [0] (tripped (some 300)) = some (.ok, .feed .derated 100) ∧
    (served .releaseFeed 100 [0] (tripped (some 300))).osu.feedLines[(0 : Fin 4)] = true := by decide +kernel

/-! ## Image write and restart -/

theorem test_writeImageBegin :
    refused .writeImageBegin 113 [0, 0, 0, 63] base .range = true ∧
    refused .writeImageBegin 113 [0, 128, 0, 1] base .range = true ∧
    reply .writeImageBegin 113 [0, 0, 0, 64] base = some (.ok, .startStatus .run none) ∧
    (served .writeImageBegin 113 [0, 128, 0, 0] base).cfl.staging = .receiving 0 8388608 [] 0 ∧
    reply .writeImageBegin 113 [0, 0, 0, 64] (writing 64 [] 0) = some (.state, .startStatus .run none) := by
  decide +kernel

theorem test_writeImageData :
    refused .writeImageData 114 [0, 0, 0, 0, 1] base .state = true ∧
    reply .writeImageData 114 [0, 0, 0, 1, 1] (writing 64 [] 9) = some (.form, .empty) ∧
    (served .writeImageData 114 [0, 0, 0, 1, 1] (writing 64 [] 9)).cfl.staging = .receiving 0 64 [] 0 ∧
    reply .writeImageData 114 [0, 0, 0, 0, 1, 2] (writing 1 [] 9) = some (.form, .empty) ∧
    reply .writeImageData 114 [0, 0, 0, 0, 1] (writing 1 [] 9) = some (.ok, .bytesReceived 1) := by decide +kernel

/-- WRITE_IMAGE_END on a whole image, on a short one, and with a restart pending; then the end of programming. -/
theorem test_writeImageEnd :
    let d := imageBytes 52 1 10 136 kinds
    let s := writing 144 d 0
    let e := imageBytes 52 1 10 144 kinds
    let t := writing 144 e 0
    let p := after (.writeImageEnd 0) (asking 115 [] t)
    headerLength d ≠ 144 ∧ reply .writeImageEnd 115 [] s = some (.form, .empty) ∧
    e.length = 144 ∧ headerLength e = 144 ∧ headerFault e = none ∧ t.restartPending = false ∧
    p.cfl.staging = .programming 0 e ∧ p.request 0 = some (⟨7, 115, []⟩, false) ∧
    lastReply (after (.flashProgrammingComplete .programmed) p) = some (.ok, .programmed .programmed) ∧
    lastReply (after (.flashProgrammingComplete .verifyFailed) p) = some (.ok, .programmed .verifyFailed) ∧
    (after (.flashProgrammingComplete .verifyFailed) p).cfl.flash = .incomplete ∧
    reply .writeImageEnd 115 [] (t.modLink 1 fun ls => { ls with tx := [.reply 1 112 .ok .empty] }) =
      some (.state, .empty) := by decide +kernel

/-- WRITE_IMAGE_END of another link, with nothing RECEIVING, while another's or its own image is programmed; and one of
wrong length where a STATE condition holds (log entry 73). -/
theorem test_writeImageEnd_of_others :
    let s := fun g => { base with cfl := { base.cfl with staging := g } }
    let others := [Staging.idle, .receiving 1 64 [] 9, .programming 1 []]
    (others.all fun g => !(s g).programming 0 && refused .writeImageEnd 115 [] (s g) .state &&
      refused .writeImageEnd 115 [0] (s g) .form && refused .writeImageData 114 [0] (s g) .form) = true ∧
    after (.writeImageEnd 0) (asking 115 [] (s (.programming 0 []))) = asking 115 [] (s (.programming 0 [])) := by
  decide +kernel

/-- RESTART answered, lost with its link, and turned away while an image is programmed. -/
theorem test_restart :
    let s := base.modLink 0 fun ls => { ls with executing := .running ⟨7, 112, []⟩ true }
    reply .restart 112 [] base = some (.ok, .empty) ∧ (served .restart 112 [] base).restartPending = true ∧
    base.cfl.staging = .idle ∧
    refused .restart 112 [] { base with cfl := { base.cfl with staging := .programming 1 [] } } .state = true ∧
    s.request 0 = some (⟨7, 112, []⟩, true) ∧ (after (.restart 0) s).cfl.startup = .configRead := by decide +kernel

theorem test_warmRestartBegin :
    let s := (playing cue busy).modLink 1 fun ls => { ls with tx := [.reply 1 112 .ok .empty] }
    let t := after .warmRestartBegin s
    s.serving = true ∧ s.restartPending = true ∧ t.cfl.startup = .configRead ∧ t.cfl.restarting = true ∧
    t.links = Vector.replicate 4 LinkState.reset ∧ t.cqs.queue = [] ∧ t.cqs.slots = [] ∧ t.csu.score = s.csu.score ∧
    t.osu.feedLines = Vector.replicate 4 false ∧ t.exu.contracts = s.exu.contracts ∧
    t = after (.transmitFrameSent 1) s ∧ after .warmRestartBegin base = base ∧
    (let waits := s.modLink 1 fun ls => { ls with tx := [.reply 1 5 .ok .empty, .reply 1 112 .ok .empty] }
     waits.restartPending = true ∧ after .warmRestartBegin waits = waits) := by decide +kernel

/-! ## Links: bytes, orphans, ends -/

theorem test_bad_frames :
    let kind4 := frameBytes 4 ⟨9, 5, []⟩
    let badCrc := planFrame.take 7 ++ [2]
    crc16 (kind4.tail.take 5) = half kind4 6 ∧ crc16 (planFrame.tail.take 5) ≠ half badCrc 6 ∧
    ((after (.frameReceive 0 kind4) base).links[(0 : Fin 4)]).frameErrors = 1 ∧
    ((after (.frameReceive 0 badCrc) base).links[(0 : Fin 4)]).frameErrors = 1 ∧
    ((after (.frameReceive 0 (badCrc ++ planFrame)) base).links[(0 : Fin 4)]).fifo = [⟨9, 5, []⟩] := by decide +kernel

theorem test_frames_sent :
    let s := base.modLink 0 fun ls => { ls with tx := [.reply 7 1 .denied .empty] }
    s.onLine 0 = frameBytes 2 ⟨7, 1, [3]⟩ ∧ framing (s.onLine 0) = .good 2 ⟨7, 1, [3]⟩ [] ∧
    (linkIn .down s).onLine 0 = [] ∧ base.onLine 0 = [] ∧ framing (frameBytes 3 ⟨0, 10, [1]⟩) = .good 3 ⟨0, 10, [1]⟩ [] ∧
    subscriptionField [.clockEvent, .assetState] = [2, 1] := by decide +kernel

/-- A request executing at its link's end runs to its end first: a claim, a load and a cue it gave are gone with the link,
and a SHOW stays; nothing is answered. -/
theorem test_executing_at_link_end :
    let ended := fun code p => after (.holdOverExpiry 0 .cqsAstZm) (linkIn .lapsed (asking code p (base.modLink 0
      fun ls => { ls with holdOver := some 10 })))
    let left := fun (t : State) => (t.zones[(0 : Fin 16)]).stack.takeover.isNone && t.ast.directory.isEmpty &&
      t.ast.freeBlocks == 4096 && t.cqs.queue.isEmpty && (t.links[(0 : Fin 4)]).tx.isEmpty &&
      (t.links[(0 : Fin 4)]).executing == .idle && (t.links[(0 : Fin 4)]).mode == .down
    left (ended 43 [0]) = true ∧ left (ended 16 [0, 9, 1, 1, 1, 1]) = true ∧
    left (ended 48 [3, 0, 6, 0, 10, 0, 2, 1, 0, 0, 200, 255]) = true ∧ left (ended 41 [3]) = true ∧
    ((ended 41 [3]).zones[(3 : Fin 16)]).pending = some .clock := by decide +kernel

/-- A WRITE_IMAGE_END in PROGRAMMING goes on without its link; its end gives nothing and takes nothing, the link UP again
with a claim. -/
theorem test_orphan_write_image_end :
    let s := linkIn .lapsed (asking 115 [] ({ base with cfl := { base.cfl with staging := .programming 0 [] } }.modLink 0
      fun ls => { ls with holdOver := some 10 }))
    let t := after (.holdOverExpiry 0 .zmCqsAst) s
    let again := (linkIn .up t).modZone 1 fun r => { r with stack := { r.stack with takeover := some (0, .clock) } }
    let u := after (.flashProgrammingComplete .programmed) again
    (t.links[(0 : Fin 4)]).executing = .running ⟨7, 115, []⟩ true ∧ t.cfl.staging = .programming 0 [] ∧
    u.links = again.links.set 0 { again.links[(0 : Fin 4)] with executing := .idle } ∧ u.zones = again.zones ∧
    u.cfl.flash = .holds [] := by decide +kernel

/-- CL0 ended with its WRITE_IMAGE_END in PROGRAMMING, and brought UP again by a HELLO, its reply sent: still
executing there. -/
def backDuringProgramming : State :=
  let s := linkIn .lapsed (asking 115 [] ({ base with cfl := { base.cfl with staging := .programming 0 [] } }.modLink 0
    fun ls => { ls with holdOver := some 10 }))
  after (.transmitFrameSent 0) (after (.hello 0 3 [1]) (after (.holdOverExpiry 0 .zmCqsAst) s))

/-- The console back during programming sends requests: 8 are appended and a ninth is answered FULL, none starts, and
with the end of programming the oldest starts (log entry 69). -/
theorem test_requests_wait_for_orphan :
    let holds := fun n => backDuringProgramming.modLink 0 fun ls => { ls with fifo := List.replicate n ⟨8, 5, []⟩ }
    let t := after (.frameReceive 0 planFrame) (holds 7)
    let u := after (.flashProgrammingComplete .programmed) t
    t.serving = true ∧ (t.links[(0 : Fin 4)]).mode = .up ∧ (t.links[(0 : Fin 4)]).rx = [] ∧
    (t.links[(0 : Fin 4)]).executing = .running ⟨7, 115, []⟩ true ∧
    (t.links[(0 : Fin 4)]).fifo = List.replicate 7 ⟨8, 5, []⟩ ++ [⟨9, 5, []⟩] ∧ (t.links[(0 : Fin 4)]).entries = 8 ∧
    after (.requestStart 0) t = t ∧ lastReply (after (.frameReceive 0 planFrame) t) = some (.full, .empty) ∧
    (u.links[(0 : Fin 4)]).executing = .idle ∧ (u.links[(0 : Fin 4)]).tx = [] ∧
    ((after (.requestStart 0) u).links[(0 : Fin 4)]).executing = .running ⟨8, 5, []⟩ false := by decide +kernel

/-- The stream owner's link ends with a cue playing, its slot without and with the read mark; and another link's end. -/
theorem test_owner_link_ends :
    let ended := fun (l : Link) (s : State) => after (.holdOverExpiry l .astCqsZm)
      (s.modLink l fun ls => { ls with mode := .lapsed, holdOver := some 10 })
    let t := ended 0 (playing cue base)
    (playing cue base).owner = some 0 ∧ slotsOk (playing cue base).cqs.slots = true ∧
    t.cqs.streamUp = false ∧ t.cqs.credits = 0 ∧ t.cqs.queue = [] ∧ t.cqs.lanes[(0 : Fin 16)] = none ∧ t.slot 7 = none ∧
    (ended 0 (reported cue)).slot 7 = some { slot with readMark := true, freeHeld := true } ∧
    (ended 1 (playing cue base)).cqs = (playing cue base).cqs := by decide +kernel

/-! ## Frame starts and records -/

/-- A trigger with a scan in flight, with two channels enabled, and with none. -/
theorem test_scan_triggers :
    let s := sensing feed
    let flying := { s with fmn := { s.fmn with scan := some ⟨[4], []⟩, skipped := 65535 } }
    let high := s.modChannel 0 fun c => { c with selected := .high }
    (after .frameStart flying).fmn = flying.fmn ∧
    (after .frameStart { flying with fmn := { flying.fmn with skipped := 1 } }).fmn.skipped = 2 ∧
    (after .frameStart high).fmn.scan = some ⟨[0, 4], []⟩ ∧
    ((after .frameStart high).fmn.channels[(0 : Fin 8)]).effect = .high ∧ (after .frameStart base).fmn.scan = none := by
  decide +kernel

/-- A record with an entry for an airing of contract 1: one tile at level 255. -/
def record (n : Seq) : FrameRecord :=
  { num := n, dark := false, entries := [{ zone := 2, key := .airing 8, contract := 1, area := 1, visible := 1, level := 255 }] }

/-- Scanned LIT, scanned DARK, and below the contract's least level: credit, none, none. -/
theorem test_records_credited :
    let s := fun (m : ScanMode) (k : Contract) =>
      withContract k (scanning { frame with mode := m, record := some (record 4) } ⟨.ok, 0, 0⟩)
    let earned := fun (t : State) => (t.exu.contracts[(1 : Fin 64)]).earned
    earned (after .scanCompletion (s .lit opened)) = 2 ∧ earned (after .scanCompletion (s .dark opened)) = 1 ∧
    earned (after .scanCompletion (s .test opened)) = 1 ∧
    earned (after .scanCompletion (s .lit { opened with minLevel := 255, minVisible := 100 })) = 2 ∧
    earned (after .scanCompletion (s .lit { opened with minLevel := 256 })) = 1 ∧
    (after .scanCompletion (s .lit opened)).exu.records.map (·.delivered) = [1] ∧
    (after .scanCompletion (s .dark opened)).exu.records.map (·.delivered) = [0] ∧
    (after .scanCompletion (s .dark opened)).exu.creditedThrough = some 4 ∧
    (after .scanCompletion (scanning { frame with record := none } ⟨.ok, 0, 0⟩)).exu = base.exu := by decide +kernel

/-! ## Adoption, mirrors, tiles -/

/-- The ends of the clock formats, and counters of one and three digits. -/
theorem test_strings :
    let show' := fun (d : Direction) (v : Nat) => clockString { clock .set v with dir := d }
    show' .down 59900 = [.digit 5, .digit 9, .stop, .digit 9] ∧ show' .down 59901 = [.digit 1, .colon, .digit 0, .digit 0] ∧
    show' .up 59999 = [.digit 5, .digit 9, .stop, .digit 9] ∧ show' .up 99 = [.digit 0, .stop, .digit 0] ∧
    show' .down 5999999 = [.digit 1, .digit 0, .digit 0, .colon, .digit 0, .digit 0] ∧
    inDecimal 100 = [.digit 1, .digit 0, .digit 0] ∧ inDecimal 0 = [.digit 0] ∧
    scoreString [7, 999] = [.space, .space, .digit 7, .space, .digit 9, .digit 9, .digit 9] ∧
    (let s := composing .begun [] (base.modZone 3 fun r => { r with current := .clock })
     (adoptionPoint 5 s).cmp.comp.strings = [(3, clockString base.csu.clocks[(0 : Fin 3)])]) := by decide +kernel

/-- Z6 follows Z2: an airing with its start frame, and the fallback reached in composition 5 and held before. -/
theorem test_mirrors :
    let shown := base.modZone 2 fun r => { r with current := .asset 9 200 (some ⟨8, 1⟩) false, start := 3 }
    let blank := base.modZone 2 fun r => { r with current := .blank true }
    (∀ x : ZoneId, base.followers x = if x = 2 then [6] else []) ∧
    ((mirrorCopies 5 shown).zones[(6 : Fin 16)]).current = .asset 9 200 (some ⟨8, 1⟩) false ∧
    ((mirrorCopies 5 shown).zones[(6 : Fin 16)]).start = 3 ∧
    ((mirrorCopies 5 (blank.modZone 6 fun r => { r with current := .clock, start := 2 })).zones[(6 : Fin 16)]).start = 5 ∧
    ((mirrorCopies 5 (blank.modZone 6 fun r => { r with current := .blank true, start := 2 })).zones[(6 : Fin 16)]).start =
      2 ∧
    ((mirrorCopies 5 shown).zones[(3 : Fin 16)]) = shown.zones[(3 : Fin 16)] := by decide +kernel

/-- Two zones of one layer, one of a higher, one not shown, and a tile of no zone. -/
theorem test_tile_owners :
    let none' := Vector.ofFn fun z : ZoneId => { (base.zones[z]) with current := .none }
    let s := { base with zones := none' }
    let on := fun (z : ZoneId) (c : Content) (s : State) => s.modZone z fun r => { r with current := c }
    tileOwner s 0 0 = none ∧ tileOwner (on 1 .gap (on 0 .gap s)) 0 0 = some 0 ∧
    layerOf image.classMap .main < layerOf image.classMap .emergency ∧
    tileOwner (on 15 (.evac 9) (on 0 .gap s)) 0 0 = some 15 ∧ tileOwner (on 0 .gap s) 1 0 = none ∧
    tileOwner (on 3 .clock s) 0 0 = none ∧
    tileOwner ((on 3 .clock s).modZone 3 fun r => { r with shown := true }) 0 0 = some 3 := by decide +kernel

/-- A tile of no zone, of a GAP, of a chain not OK, and of an asset of one tile at level 150. -/
theorem test_written_tiles :
    let s := composing .ready [] (withAsset (.ready ⟨1, 1, 1, 1⟩ (List.replicate 3072 100) 100) 0)
    let on := fun (c : Content) => { s with
      zones := Vector.ofFn fun z : ZoneId => { (s.zones[z]) with current := if z = 2 then c else .none } }
    let e : PlanEntry := { zone := 2, level := 200, load := 100, held := false, visible := #v[1, 0, 0, 0], area := 1,
                           applied := 150 }
    let at' := fun (t : State) (r : TileRec) => writtenTile t [e] r
    at' (on .none) ⟨0, 0, 0, 0, 0⟩ = List.replicate 3072 0 ∧ at' (on .gap) ⟨0, 0, 0, 0, 0⟩ = List.replicate 3072 0 ∧
    at' (on (.asset 9 200 none false)) ⟨0, 0, 1, 0, 0⟩ = List.replicate 3072 0 ∧
    at' (on (.asset 9 200 none false)) ⟨0, 0, 0, 0, 0⟩ = List.replicate 3072 58 ∧
    (after .planAllocation s).cmp.comp.picture.length = 2 ∧
    image.geometry.tiles.find? (fun t => t.row * 2 + t.col == 1 && t.col < 2) = some ⟨1, 0, 0, 1, 0⟩ := by decide +kernel

/-- No sub-pixel of a test pattern exceeds 64; off the border and the numerals a feed shows its colour alone. -/
theorem test_testTile (t : TileRec) :
    (testTile t).length = 3072 ∧ (∀ p : Byte, testBound p ≤ 64) ∧
    (∀ f < 4, ∀ sub < 3, feedColour f sub = (f == sub || f == 3)) ∧ onBorder 0 5 = true ∧ onBorder 31 5 = true ∧
    onBorder 5 0 = true ∧ onBorder 5 31 = true ∧ onBorder 1 30 = false ∧
    (Config.testNumeral t.chain t.position 5 5 = false → testSubPixel { t with feed := 1 } 5 5 0 = 0) := by
  refine ⟨by simp [testTile], fun p => ?_, by decide, by decide, by decide, by decide, by decide, by decide, fun h => ?_⟩
  · unfold testBound
    split
    · assumption
    · exact BitVec.le_refl _
  · simp [testSubPixel, onBorder, feedColour, h]

/-! ## Cues -/

/-- Z1's lane plays cue 4 of contract 2 beside Z0's cue 3 of contract 1, both contracts of one category. -/
def rivalLanes (q : Cue) (category : Nat) : State :=
  let s := playing q base
  let s := { s with cqs := { s.cqs with
    queue := [q, { cue with id := 4, zone := 1, attribution := some 2 }], lanes := upd s.cqs.lanes 1 fun _ => some 4 } }
  composing .advancing [0] ((withContract { opened with category := 5 } s).modContract 2
    fun _ => { opened with category := category })

/-- A cue in PREROLL: not ready, ready, and ready with a conflicting cue on the other lane. -/
theorem test_preroll :
    let pre : Cue := { cue with state := .preroll, firstListed := none, attribution := some 1 }
    let empty := { rivalLanes pre 6 with cqs := { (rivalLanes pre 6).cqs with slots := [] } }
    let t := after (.clipFrameQuery 0) (rivalLanes pre 6)
    let u := after (.clipFrameQuery 0) (rivalLanes pre 5)
    (after (.clipFrameQuery 0) empty).cqs = empty.cqs ∧ laneConflict (rivalLanes pre 6) 0 1 = false ∧
    laneConflict (rivalLanes pre 5) 0 1 = true ∧ laneConflict (rivalLanes pre 5) 1 1 = false ∧
    t.cue 3 = some { pre with state := .playing, firstListed := some 5, lastListed := some 5, listed := 1 } ∧
    (t.cmp.holds[(0 : Fin 16)]).map (·.frame) = some 10 ∧ (t.slot 7).map (·.readMark) = some true ∧
    u.cue 3 = some { pre with state := .playing, firstListed := some 5, attribution := none, dropped := true } := by
  decide +kernel

/-- A PLAYING cue without its frame at freeze limit 2 and 1, a SUSPENDED cue, and one that is not the lane's. -/
theorem test_freezes :
    let s := fun (q : Cue) => composing .advancing [0] (playing q base)
    let empty := { s cue with cqs := { (s cue).cqs with slots := [] } }
    let strict := { empty with cfl := { empty.cfl with image := { image with linkTable :=
      { image.linkTable with freezeLimit := 1 } } } }
    let idle := { s cue with cqs := { (s cue).cqs with lanes := Vector.replicate 16 none } }
    (after (.clipFrameQuery 0) empty).cue 3 = some { cue with state := .frozen, freeze := 1 } ∧
    (after (.clipFrameQuery 0) strict).cue 3 = none ∧
    (after (.clipFrameQuery 0) (s { cue with state := .suspended })).cqs = (s { cue with state := .suspended }).cqs ∧
    (after (.clipFrameQuery 0) idle).cqs = idle.cqs := by decide +kernel

/-- In SAFE and POWER_UP no frame counts. -/
theorem test_frames_outside :
    after (.clipFrameArrival (clip 6 10)) (inState .safe base) = inState .safe base ∧
    after (.clipFrameArrival (clip 6 10)) (inState .powerUp base) = inState .powerUp base ∧
    (after (.clipFrameArrival (clip 6 10)) (inState .residentLoad base)).cqs.discards = 1 := by decide +kernel

/-! ## Ticks, feeds -/

/-- A clock counted to its warning value, one above it, and one whose flag is clear. -/
theorem test_warning :
    let s := fun (v : Nat) (armed : Bool) => withClock 0 { clock .running v with warning := 4, armed := armed } base
    (∀ x : ClockId, warns (s 5 true) x = decide (x = 0)) ∧ (∀ x : ClockId, expires (s 5 true) x = false) ∧
    (after (.msTick quiet) (s 5 true)).csu.clocks[(0 : Fin 3)] = { clock .running 4 with warning := 4, armed := false } ∧
    (after (.msTick quiet) (s 6 true)).csu.clocks[(0 : Fin 3)] = { clock .running 5 with warning := 4, armed := true } ∧
    (after (.msTick quiet) (s 4 false)).csu.clocks[(0 : Fin 3)] = { clock .running 3 with warning := 4, armed := false } := by
  decide +kernel

/-- A first reading below trip-under is classed: it completes a stressing run and starts the trip-under run. -/
theorem test_first_low_voltage :
    let judged := fun f i u => (after .monitorScanComplete (scanned f i u)).fmn.feeds[(0 : Fin 4)]
    judged { feed with stressRun := 1 } 150 99 = { feed with derate := 246, tripRun := 1 } ∧
    judged feed 150 99 = { feed with stressRun := 1, tripRun := 1 } ∧
    judged { feed with derate := 250 } 99 301 = { feed with derate := 250, reliefRun := 1 } ∧
    judged { feed with stressRun := 1, reliefRun := 1, tripRun := 1 } 150 250 = feed := by decide +kernel

/-! ## The rotation -/

/-- A state whose asset 9 is READY, contract 1 in OPEN, contract 2 MET, and Z2's record as given. -/
def turning (r : RotZone) (ring : List Spot) (insert makegood : List QueueEntry) : State :=
  let s := (withContract opened (withAsset (.ready ⟨1, 1, 1, 1⟩ [1] 9) 4)).modContract 2
    fun _ => { opened with state := .met, earned := 10 }
  { s with rot := { s.rot with
      ring := ring, insert := insert, makegood := makegood, nextAiring := 8, zones := upd s.rot.zones 2 fun _ => some r } }

/-- A record without an airing. -/
def waiting : RotZone := { cursor := none, airing := none, ending := [], hold := false, fallbackShown := false }

/-- A queue entry, and a spot, of a contract on asset 9. -/
def entry (c : ContractId) : QueueEntry := { contract := c, asset := 9, cls := .sponsor, duration := 4, level := 200 }

def spot (id : Nat) (c : ContractId) : Spot := ⟨id, c, 9, .sponsor, 4, .any, 200⟩

/-- The airing a search takes on for Z2: source, contract, spot. -/
def taking (s : State) : Option (AiringSource × ContractId × Option Nat) :=
  ((pickEntry 2 none s).airing 2).map fun a => (a.source, a.contract, a.spot)

/-- An insert, a make-good, a spot from the cursor, nothing; entries of a MET contract leave on the way. -/
theorem test_picks :
    let s := turning waiting [spot 5 1] [entry 2, entry 1] [entry 1]
    taking s = some (.insert, 1, none) ∧ (pickEntry 2 none s).rot.insert = [] ∧ (pickEntry 2 none s).rot.makegood = [entry 1] ∧
    taking (turning waiting [spot 5 1] [entry 2] [entry 2, entry 1]) = some (.makegood, 1, none) ∧
    taking (turning { waiting with cursor := some 6 } [spot 5 1, spot 6 2, spot 7 1] [] []) = some (.ring, 1, some 7) ∧
    ((pickEntry 2 none (turning { waiting with cursor := some 6 } [spot 5 1, spot 6 2, spot 7 1] [] [])).rot.zones[
      (2 : Fin 16)]).bind (·.cursor) = some 5 ∧
    taking (turning { waiting with cursor := some 6 } [spot 5 1, spot 6 2] [] []) = some (.ring, 1, some 5) ∧
    taking (turning waiting [spot 5 2] [] []) = none := by decide +kernel

/-- Eligibility at its ends: the target less the holdback, the clock condition, the exclusion of a follower, a rival. -/
theorem test_eligibility :
    let s := turning waiting [] [] []
    let k := fun (k : Contract) => eligible (withContract k s) none 2 1 .any
    let rival := (withContract { opened with category := 3 } s).modContract 3 fun _ => { opened with category := 3 }
    k opened = true ∧ k { opened with holdback := 8 } = true ∧ k { opened with holdback := 9 } = false ∧
    k { opened with state := .closed } = false ∧ k { opened with exclusion := 64 } = false ∧
    k { opened with exclusion := 32 } = true ∧ eligible s none 2 1 .gameRunning = false ∧
    eligible s none 2 1 .gameStopped = true ∧ eligible rival (some 3) 2 1 .any = false ∧
    eligible rival (some 1) 2 1 .any = true := by decide +kernel

/-- A pick due with and without an entry, a pick not due, and a record with the fallback already shown. -/
theorem test_pickIfDue :
    let s := turning waiting [spot 5 1] [] []
    let none' := turning waiting [] [] []
    let shown := turning { waiting with fallbackShown := true } [] [] []
    let held := turning { waiting with hold := true } [spot 5 1] [] []
    ((pickIfDue 2 s).zones[(2 : Fin 16)]).pending = some (.asset 9 200 (some ⟨8, 1⟩) false) ∧
    ((pickIfDue 2 none').zones[(2 : Fin 16)]).pending = some (.blank true) ∧ pickIfDue 2 shown = pickEntry 2 none shown ∧
    ((pickIfDue 2 held).zones[(2 : Fin 16)]).pending = some (.blank true) ∧ (pickIfDue 2 held).airing 2 = none := by
  decide +kernel

/-- An airing of contract 1 on Z2. -/
def airingIn (p : AiringPhase) (frames : Nat) : Airing :=
  { id := 7, phase := p, source := .ring, spot := some 5, contract := 1, asset := 9, duration := 4, level := 200,
    frames := frames, first := some 2, last := some 5, cut := none }

/-- A cue of contract 3 starts: Z2's airing of a rival is replaced by the next spot that is none, or by the fallback; an
airing already ending, and one of another category, too. -/
theorem test_conflicts :
    let a := airingIn .onAir 2
    let s := fun (r : RotZone) (ring : List Spot) =>
      (((withContract { opened with category := 3 } (turning r ring [] [])).modContract 3
        fun _ => { opened with category := 3 }).modContract 4 fun _ => opened).modZone 2 fun z => { z with current := a.content }
    let on := { waiting with airing := some a }
    let t := conflictZone 5 3 3 (s on [spot 5 1, spot 6 4]) 2
    (t.zones[(2 : Fin 16)]).current = .asset 9 200 (some ⟨8, 4⟩) false ∧ (t.zones[(2 : Fin 16)]).start = 5 ∧
    (t.rot.zones[(2 : Fin 16)]).map (·.ending.map (·.id)) = some [7] ∧
    ((conflictZone 5 3 3 (s on [spot 5 1]) 2).zones[(2 : Fin 16)]).current = .blank true ∧
    ((conflictZone 5 3 3 (s { waiting with ending := [a] } [spot 6 4]) 2).zones[(2 : Fin 16)]).current = .blank true ∧
    conflictZone 5 3 2 (s on [spot 6 4]) 2 = s on [spot 6 4] ∧ conflictZone 5 1 3 (s on []) 2 = s on [] := by decide +kernel

/-- The cursor after a removal: the next spot, the first one past the end, none of an empty ring; another stays. -/
theorem test_cursor_moves :
    let moved := fun (cursor : Nat) (ring : List Spot) => ((served .removeSpot 87 [5]
      (turning { waiting with cursor := some cursor } ring [] [])).rot.zones[(2 : Fin 16)]).map (·.cursor)
    moved 5 [spot 5 1, spot 6 1] = some (some 6) ∧ moved 5 [spot 6 1, spot 5 1] = some (some 6) ∧
    moved 5 [spot 5 1] = some none ∧ moved 6 [spot 5 1, spot 6 1] = some (some 6) ∧
    ([spot 6 1, spot 5 1].map (·.id)).Nodup := by decide +kernel

/-- An event with its spot in the ring takes both references; the ninth insert is lost with a notice. -/
theorem test_trigger_entry :
    let s := fun n => { turning waiting [spot 5 1] (List.replicate n (entry 1)) [] with
      links := upd base.links 0 fun ls => { ls with tx := [] }
      cfl := { base.cfl with image := { image with linkTable := { image.linkTable with
        links := upd image.linkTable.links 0 fun p => { p with subs := [.triggerLost] } } } } }
    let t := fun n => { s n with rot := { (s n).rot with triggers := upd base.rot.triggers 3 fun _ => some ⟨.scoreUp 0, 5⟩ } }
    (triggerEvent (.scoreUp 0) (t 7)).rot.insert.length = 8 ∧ ((triggerEvent (.scoreUp 0) (t 7)).asset 9).refs = 5 ∧
    ((triggerEvent (.scoreUp 0) (t 7)).exu.contracts[(1 : Fin 64)]).refs = 1 ∧
    ((triggerEvent (.scoreUp 0) (t 8)).links[(0 : Fin 4)]).tx = [.notice (.triggerLost 3 (.scoreUp 0) 5 0)] := by
  decide +kernel

/-! ## Closures -/

/-- Airings that run on, complete, are cut, and are withdrawn. -/
theorem test_closing_airings :
    let s := fun r => turning r [] [] []
    let on := fun a => { waiting with airing := some a }
    let off := fun a => { waiting with ending := [a] }
    (settleAiring 2 (s (on (airingIn .onAir 3)), [])).2 = [] ∧
    ((settleAiring 2 (s (on (airingIn .onAir 4)), [])).2.map (·.outcome)) = [.complete] ∧
    ((settleAiring 2 (s (on (airingIn .onAir 4)), [])).1.asset 9).refs = 3 ∧
    ((settleEnding 2 (s (off (airingIn .ending 1)), [])).2.map (·.outcome)) = [.cut] ∧
    (settleEnding 2 (s (off (airingIn .ending 0)), [])).2 = [] ∧
    ((settleEnding 2 (s (off (airingIn .ending 0)), [])).1.asset 9).refs = 3 := by decide +kernel

/-- Three airings that end together, one never composed: marks in the order of the cuts, every asset reference back. -/
theorem test_ending_together :
    let off := { waiting with
      ending := [airingIn .ending 2, { airingIn .ending 0 with id := 8 }, { airingIn .ending 1 with id := 9 }] }
    let r := settleEnding 2 (turning off [] [] [], [])
    r.2.map (·.key) = [.airing 7, .airing 9] ∧ r.2.map (·.frames) = [2, 1] ∧ (r.1.asset 9).refs = 1 ∧
    (r.1.rot.zones[(2 : Fin 16)]).map (·.ending) = some [] := by decide +kernel

/-- A warm restart with an airing on air, an ending one never composed, a cue attributed and listed, and a record that
waits: each but the withdrawn one is logged as closed by restart, without a make-good, and the references are back. -/
theorem test_restart_closes :
    let r := { waiting with airing := some (airingIn .onAir 3), ending := [{ airingIn .ending 0 with id := 8 }] }
    let q := { cue with attribution := some 1, lastListed := some 4, listed := 3 }
    let mark := { (airingIn .ending 2).mark 2 1 .cut with key := .airing 6 }
    let s := { turning r [spot 5 1] [entry 1] [entry 1] with
      cqs := { base.cqs with queue := [q] }
      links := upd base.links 1 fun ls => { ls with tx := [.reply 1 112 .ok .empty] } }
    let s := { s with exu := { s.exu with
      contracts := upd s.exu.contracts 1 fun k => { k with makegood := 100, refs := 9 }
      records := [⟨.airing 6, 1, 5, some mark, false⟩, ⟨.airing 7, 1, 2, none, false⟩] } }
    let t := after .warmRestartBegin s
    s.serving = true ∧ (s.links[(1 : Fin 4)]).mode ≠ .down ∧ s.exu.log.length ≤ 256 ∧
    t.exu.log.map (fun e => (e.id, e.outcome, e.frames, e.delivered)) =
      [(7, .cut, 3, 2), (3, .attribution, 3, 0), (6, .cut, 2, 5)] ∧
    (t.exu.log.all fun e => e.restart && !e.queued) = true ∧ t.exu.records = [] ∧ t.rot.makegood = [] ∧
    (t.exu.contracts[(1 : Fin 64)]) = { s.exu.contracts[(1 : Fin 64)] with refs := 2 } := by decide +kernel

/-- A closing mark of an airing of 4 frames on one tile, last composed in 5. -/
def mark : Mark := (airingIn .onAir 4).mark 2 1 .complete

/-- Credited through none, 4, 5: the record waits, waits, closes. -/
theorem test_marks_wait_or_close :
    let s := fun c => { turning waiting [] [] [] with exu := { (turning waiting [] [] []).exu with creditedThrough := c } }
    (takeMark mark (s none)).exu.records.map (·.mark) = [some mark] ∧
    (takeMark mark (s (some 4))).exu.records.map (·.mark) = [some mark] ∧
    (takeMark mark (s (some 5))).exu.records = [] ∧ (takeMark mark (s (some 5))).exu.log.map (·.id) = [7] ∧
    earlier 4 mark.last = true ∧ earlier 5 mark.last = false := by decide +kernel

/-- Make-goods at the ends: delivered 3 of 4 at 75 and 76 percent, a contract not OPEN, a queue of 16, no asset. -/
theorem test_makegoods :
    let r : OpenRecord := { key := mark.key, contract := 1, delivered := 3, mark := some mark, holdsRef := false }
    let s := fun (k : Contract) (n : Nat) => withContract k (turning waiting [] [] (List.replicate n (entry 2)))
    let due := fun (k : Contract) (n : Nat) =>
      let t := closeRecord false r mark (s k n)
      (t.rot.makegood.length - n, t.exu.log.map (·.queued))
    due { opened with makegood := 75 } 15 = (0, [false]) ∧ due { opened with makegood := 76 } 15 = (1, [true]) ∧
    due { opened with makegood := 76 } 16 = (0, [true]) ∧ due { opened with makegood := 76, state := .met } 0 = (0, [false]) ∧
    (closeRecord false r mark (s { opened with makegood := 76 } 0)).rot.makegood =
      [{ contract := 1, asset := 9, cls := .sponsor, duration := 1, level := 200 }] ∧
    (makegoodArrival (entry 1) 7 base).rot.makegood = [] ∧
    ((makegoodArrival (entry 1) 7 (s opened 0)).asset 9).refs = 5 := by decide +kernel

/-- The log full, and a cue's record. -/
theorem test_closures_logged :
    let r : OpenRecord := { key := .cue 3 1, contract := 1, delivered := 3, mark := none, holdsRef := true }
    let m : Mark := { mark with key := .cue 3 1, source := .cue, outcome := .attribution }
    let s := withContract { opened with makegood := 100, refs := 1 } logged
    let t := closeRecord false r m s
    t.exu.log.length = 4 ∧ (t.exu.log.getLast?.map fun e => (e.id, e.queued, e.source)) = some (3, false, .cue) ∧
    (t.exu.contracts[(1 : Fin 64)]).refs = 0 ∧
    (let e := t.exu.log.getD 0 { id := 0, contract := 0, zone := 0, source := .ring, first := 0, last := 0, duration := 0,
                                 frames := 0, delivered := 0, nominal := 0, outcome := .cut, queued := false,
                                 restart := false }
     let f := { s with exu := { s.exu with log := List.replicate 256 e, logLost := 65535 } }
     (appendLog e f).exu.log.length = 256 ∧ (appendLog e f).exu.logLost = 65535) := by decide +kernel

/-! ## Notices -/

/-- Every notice kind. -/
def everyNotice : List NoticeKind :=
  [.clockEvent, .claimChange, .cueState, .msgState, .airingClosed, .makegoodDropped, .triggerLost, .feedState, .chainState,
    .assetState]

/-- CL0 subscribed to every notice. -/
def told (s : State) : State :=
  { s with cfl := { s.cfl with image := { s.cfl.image with linkTable := { s.cfl.image.linkTable with
      links := upd s.cfl.image.linkTable.links 0 fun p => { p with subs := everyNotice } } } } }

/-- The frames CL0 waits to send. -/
def queue (s : State) : List TxFrame := (s.links[(0 : Fin 4)]).tx

/-- The notices among them. -/
def notices (s : State) : List Notice := (queue s).filterMap fun f => match f with
  | .notice n => some n
  | _ => none

/-- Z0 a MAIN zone without a claim, claimed by CL1 at level 2; with CL0 at level 1 and its cue PLAYING; with CL1 at level
2, claimed at level 1, and released at its top, below its top, and at link end. -/
theorem test_claim_notices :
    let s := told base
    let on := told (playing cue base)
    let held := s.modZone 0 fun r => { r with stack := { r.stack with takeover := some (1, .clock) } }
    let both := held.modZone 0 fun r => { r with stack := { r.stack with replay := some (0, .clip 3 200) } }
    s.isMain 0 = true ∧ ((s.zones[(0 : Fin 16)]).stack.holder 2) = none ∧
    notices (claim 0 2 (.link 1) .clock s).1 = [.claimChange 0 .claim 0 .rotation 2 (.link 1) 0] ∧
    (on.zones[(0 : Fin 16)]).stack.top = 1 ∧ on.cqs.lanes[(0 : Fin 16)] = some cue.id ∧ on.cue cue.id = some cue ∧
    notices (claim 0 2 (.link 1) .clock on).1 = [.claimChange 0 .claim 1 (.link 0) 2 (.link 1) 0,
      cueStateOf { cue with state := .suspended } none 1 0] ∧
    notices (claim 0 1 (.link 0) .gap held).1 = [] ∧ notices (claim 0 2 (.link 1) .gap held).1 = [] ∧
    notices (claim 0 3 .messageEngine .gap held).1 = [.claimChange 0 .claim 2 (.link 1) 3 .messageEngine 0] ∧
    notices (release 0 2 (.link 1) false both).1 = [.claimChange 0 .release 2 (.link 1) 1 (.link 0) 0] ∧
    notices (release 0 1 (.link 0) false both).1 = [] ∧
    notices (release 0 1 (.link 0) true both).1 = [.claimChange 0 .linkEnd 2 (.link 1) 2 (.link 1) 0] ∧
    notices (release 0 2 (.link 1) true both).1 = [.claimChange 0 .linkEnd 2 (.link 1) 1 (.link 0) 0] := by decide +kernel

/-- A cue's record changed; a FROZEN cue whose frame arrives, and an arrival it does not wait for; PLAY. -/
theorem test_cue_notices :
    let s := told (stream 120 { base with cqs := { base.cqs with queue := [{ filling with state := .frozen }] } })
    let ready := told (stream 120 { base with cqs := { base.cqs with queue := [filling] } })
    s.cue 3 = some { filling with state := .frozen } ∧ lowestFree 120 0 s.cqs.slots = some 0 ∧
    notices (changeCue 3 (fun q => { q with position := 5 }) s) =
      [.cueState 3 0 .frozen none 5 0 none false 0] ∧
    notices (storeFrame (clip 6 10) { filling with state := .frozen } s) = [.cueState 3 0 .playing none 0 1 none false 0] ∧
    notices (storeFrame (clip 6 11) { filling with state := .frozen } s) = [] ∧
    ready.nextCue 0 = some filling ∧ ready.cue filling.id = some filling ∧ ready.owner = some 0 ∧
    (ready.zones[(0 : Fin 16)]).stack.replay = none ∧ ready.cqs.lanes[(0 : Fin 16)] = none ∧
    notices (served .play 49 [0] ready) =
      [.claimChange 0 .claim 0 .rotation 1 (.link 0) 0, .cueState 3 0 .preroll none 0 0 none false 0] := by decide +kernel

/-- Every entry to an emergency state, and CLEAR_EVACUATE; a cancelled message. -/
theorem test_message_notices :
    let s := fun e => told { holding [{ message with source := 0 }] with mse := { base.mse with
      emergency := e, queue := [{ message with source := 0 }] } }
    notices (setEmergency (.linkEvac 9) .post (s .none)) = [.emergency (.linkEvac 9) (some 9) .post 0] ∧
    notices (setEmergency .alarmEvac .alarmAsserted (inState .safe (s .none))) = [] ∧
    notices (alarmAccepted true (s .none)) = [.emergency .alarmEvac (some 0) .alarmAsserted 0] ∧
    notices (alarmAccepted false (s .none)) = [] ∧
    notices (alarmAccepted true (s (.linkEvac 9))) = [.emergency .alarmEvac (some 0) .alarmAsserted 0] ∧
    notices (alarmAccepted false (s .alarmEvac)) = [.emergency .alarmHeld (some 0) .alarmNegated 0] ∧
    notices (alarmAccepted true (s .alarmHeld)) = [.emergency .alarmEvac (some 0) .alarmAsserted 0] ∧
    (served .clearEvacuate 66 [] (s .alarmHeld)).mse.emergency = .none ∧
    notices (served .clearEvacuate 66 [] (s .alarmHeld)) = [.emergency .none none .clear 0] ∧
    notices (served .clearEvacuate 66 [] (s (.linkEvac 9))) = [.emergency .none none .clear 0] ∧
    (s .none).mse.queue.find? (fun m => m.id == half (bytes [0, 4]) 0 && m.source == 0) =
      some { message with source := 0 } ∧
    notices (served .cancelMessage 65 [0, 4] (s .none)) = [.message 4 0 .info .doneCancelled 2 0] := by decide +kernel

/-- Asset 9 loaded, failed, aborted, deleted, and taken with its link. -/
theorem test_asset_notices :
    let part := fun n => told (withAsset (load 0 (List.replicate n 7)) 0)
    let whole := told (withAsset (.ready ⟨1, 1, 1, 1⟩ [1] 9) 0)
    (load 0 (List.replicate 3072 7)).blocks = 1 ∧ whole.ast.freeBlocks = 4095 ∧
    notices (served .assetEnd 18 [0, 9] (part 3072)) = [.assetState 9 true .loaded (some 7) 4095] ∧
    notices (served .assetEnd 18 [0, 9] (part 1)) = [.assetState 9 false .failed none 4096] ∧
    notices (served .assetAbort 19 [0, 9] (part 1)) = [.assetState 9 false .aborted none 4096] ∧
    notices (served .assetDelete 20 [0, 9] whole) = [.assetState 9 false .deleted none 4096] ∧
    ((part 1).ast.directory.filter fun e => e.2.body.loadedBy 0).map (·.1) = [9] ∧
    notices (abortLoads 0 (part 1)) = [.assetState 9 false .linkEnd none 4096] ∧
    notices (abortLoads 1 (part 1)) = [] := by decide +kernel

/-- A record closed without and with a make-good, by a warm restart, and a cue's. -/
theorem test_closure_notices :
    let r : OpenRecord := { key := mark.key, contract := 1, delivered := 3, mark := some mark, holdsRef := false }
    let s := told (withContract { opened with makegood := 76 } (turning waiting [] [] []))
    let full := told (withContract { opened with makegood := 76 } (turning waiting [] [] (List.replicate 16 (entry 2))))
    let m : Mark := { mark with key := .cue 3 1, source := .cue, outcome := .attribution }
    mark.key = .airing 7 ∧ mark.area * mark.duration = 4 ∧ makegoodOf s r mark ≠ none ∧
    makegoodOf s { r with delivered := 4 } mark = none ∧
    notices (closeRecord false { r with delivered := 4 } mark s) =
      [.airingClosed 7 1 2 mark.source .complete 4 4 false 0] ∧
    notices (closeRecord false r mark s) = [.airingClosed 7 1 2 mark.source .complete 3 4 true 0] ∧
    notices (closeRecord true r mark s) = [.airingClosed 7 1 2 mark.source .complete 3 4 false 0] ∧
    (notices (closeRecord false r mark full)).length = 2 ∧
    (notices (closeRecord false r mark full)).getLast? = some (.airingClosed 7 1 2 mark.source .complete 3 4 true 0) ∧
    notices (closeRecord false { r with key := .cue 3 1 } m s) = [.airingClosed 3 1 2 .cue .attribution 3 4 false 0] := by
  decide +kernel

/-! ## Cold starts, HELLO, a RESTART lost -/

/-- The image region incomplete, or being programmed, at a supply start and at a reset pulse; and whole. -/
theorem test_incomplete_region_at_cold_start :
    let s := fun f st => { base with cfl := { base.cfl with flash := f, staging := st } }
    let flash := fun c t => (after (.coldStart c) t).cfl.flash
    flash (.powerOn (.holds [1]) []) (s .incomplete .idle) = .incomplete ∧
    flash (.resetLine 10) (s .incomplete .idle) = .incomplete ∧
    flash (.powerOn (.holds [1]) []) (s (.holds [2]) (.programming 0 [])) = .incomplete ∧
    flash (.powerOn (.holds [1]) []) (s (.holds [2]) .idle) = .holds [1] ∧
    flash (.resetLine 10) (s (.holds [2]) .idle) = .holds [2] ∧
    after (.coldStart (.resetLine 9)) (s .incomplete .idle) = s .incomplete .idle := by decide +kernel

/-- A HELLO of another role and a malformed one (no byte, two bytes, role code 5) in each link state: the mode after it,
whether the keepalive timer was restarted, and the reply. -/
theorem test_hello_refused :
    let s := fun m => (linkIn m base).modLink 0 fun ls => { ls with keepalive := some 7, holdOver := some 10 }
    let seen := fun p m =>
      let ls := (after (.hello 0 3 p) (s m)).links[(0 : Fin 4)]
      (ls.mode, ls.keepalive, ls.holdOver, ls.tx)
    base.serving = true ∧ (base.params 0).role = .replay ∧ roleOf (byteAt (bytes [0]) 0) = some .timing ∧
    roleOf 4 ≠ none ∧ 4 < byteAt (bytes [5]) 0 ∧
    ([(bytes [0], Status.denied), (bytes [5], .form), ([], .form), (bytes [1, 1], .form)].all fun e =>
      seen e.1 .down == (.helloWait, some 1000, some 10, [.reply 3 1 e.2 .empty]) &&
      seen e.1 .helloWait == (.helloWait, some 1000, some 10, [.reply 3 1 e.2 .empty]) &&
      seen e.1 .up == (.up, some 1000, some 10, [.reply 3 1 e.2 .empty]) &&
      seen e.1 .lapsed == (.lapsed, some 7, some 10, [.reply 3 1 e.2 .empty])) = true := by decide +kernel

/-- CL0 LAPSED, or UP with no hold-over time, with its OK RESTART reply queued, waiting, or yet to be given. -/
theorem test_restart_lost :
    let answer : TxFrame := .reply 7 112 .ok .empty
    let queued := heldOver 0 |>.modLink 0 fun ls => { ls with tx := [.reply 1 5 .ok .empty, answer] }
    let waits := heldOver 0 |>.modLink 0 fun ls => { ls with executing := .replyWaiting answer }
    let runs := asking 112 [] (heldOver 0)
    let lapsed := fun s => linkIn .lapsed (s.modLink 0 fun ls => { ls with holdOver := some 10 })
    let begun := fun (t : State) => t.cfl.startup == .configRead && t.cfl.restarting &&
      t.links == Vector.replicate 4 LinkState.reset
    let programming := { runs with cfl := { runs.cfl with staging := .programming 1 [] } }
    answer.restarts = true ∧ (TxFrame.reply 7 112 .state .empty).restarts = false ∧
    (queued.links[(0 : Fin 4)]).mode = .up ∧ (queued.params 0).holdOver = 0 ∧
    ([queued, waits, runs].all fun s => losesRestart 0 s && begun (after (.keepaliveExpiry 0 .zmCqsAst) s) &&
      begun (after (.holdOverExpiry 0 .astCqsZm) (lapsed s))) = true ∧
    losesRestart 0 programming = false ∧ losesRestart 1 queued = false ∧
    (after (.keepaliveExpiry 0 .zmCqsAst) programming).cfl.startup = .run := by decide +kernel

/-- RESTART answered: with room for its reply, and with none. -/
theorem test_restart_answered :
    (served .restart 112 [] (full 15)).restartPending = true ∧ losesRestart 0 (served .restart 112 [] (full 15)) = true ∧
    losesRestart 0 (served .restart 112 [] (full 16)) = true := by decide +kernel

/-! ## The chains, the plan, the tiles -/

/-- A completion with a record at which chain 0 enters FAULT, recovers, and stays; and one of the black frame. -/
theorem test_chain_notices :
    let s := fun f r => told (scanning f r)
    (s frame ⟨.suspect, 2, 0⟩).inRun = true ∧
    notices (after .scanCompletion (s frame ⟨.suspect, 2, 0⟩)) = [.chainState 0 .fault 4] ∧
    notices (after .scanCompletion (s (answered 4 2) ⟨.fault, 0, 7⟩)) = [.chainState 0 .ok 4] ∧
    notices (after .scanCompletion (s (answered 4 2) ⟨.fault, 0, 6⟩)) = [] ∧
    notices (after .scanCompletion (s frame ⟨.suspect, 1, 0⟩)) = [] ∧
    notices (after .scanCompletion (s { frame with num := none, record := none } ⟨.suspect, 2, 0⟩)) =
      [.chainState 0 .fault 0] ∧
    (after .scanCompletion (s frame ⟨.suspect, 2, 0⟩)).exu.creditedThrough = some 4 := by decide +kernel

/-- Tiles at positions 0 and 2 of chain 0, none at position 1: what it is sent in each mode; an UNUSED chain, and no
frame. -/
theorem test_chain_data :
    let tiles : List TileRec := [⟨0, 0, 0, 0, 0⟩, ⟨1, 0, 0, 2, 1⟩]
    let shown := fun n => List.replicate 3072 (BitVec.ofNat 8 n)
    let s := fun (m : ScanMode) => { (scanning { frame with mode := m, picture := [shown 5, shown 6] } ⟨.ok, 0, 0⟩) with
      cfl := { base.cfl with image := { image with geometry := { image.geometry with tiles := tiles } } } }
    let tile : TileRec := ⟨1, 0, 0, 2, 1⟩
    let sent := fun m => (chainData (s m) 0).map fun d => (d.1, d.2.map (·.head?))
    sent .lit = some (4, [some 5, some 0, some 6]) ∧ sent .dark = some (4, [some 0, some 0, some 0]) ∧
    (∀ u ∈ tiles, u.position = 2 → u = tile) ∧ tile.row * image.geometry.width + tile.col = 1 ∧
    (chainData (s .test) 0).map (fun d => (d.1, d.2.length)) = some (4, 3) ∧
    ((chainData (s .test) 0).bind fun d => d.2[1]?.bind (·.head?)) = some 0 ∧
    chainData (s .lit) 1 = none ∧ chainData base 0 = none := by decide +kernel

/-- The snapshot of a frame start with chain 0 OK, chain 1 UNUSED and feed 1 TRIPPED. -/
theorem test_snapshot :
    let s := base.modFeed 1 fun f => { f with tripped := true }
    let c := (after .frameStart s).cmp.comp
    s.inRun = true ∧ openScan s = none ∧ s.cmp.comp.phase = .idle ∧
    c.chainOk[(0 : Fin 48)] = true ∧ c.chainOk[(1 : Fin 48)] = false ∧
    c.tripped[(1 : Fin 4)] = true ∧ c.tripped[(0 : Fin 4)] = false ∧
    tileVisible c ⟨0, 0, 0, 0, 0⟩ = true ∧ tileVisible c ⟨0, 0, 1, 0, 0⟩ = false ∧ tileVisible c ⟨0, 0, 0, 0, 1⟩ = false ∧
    tileVisible c ⟨0, 0, 48, 0, 0⟩ = false ∧ tileVisible c ⟨0, 0, 0, 0, 4⟩ = false := by decide +kernel

/-- Asset 9 READY with load figure 9 and no zone present but the one given, with its content. -/
def showing (z : ZoneId) (c : Content) : State :=
  let s := composing .ready [] (withAsset (.ready ⟨1, 1, 1, 1⟩ [1] 9) 0)
  { s with zones := Vector.ofFn fun y : ZoneId =>
      { (s.zones[y]) with current := if y = z then c else .none, shown := decide (y = z) } }

/-- The plan's zones with their levels, load figures and dim classes. -/
def planRows (s : State) : List (ZoneId × Nat × Nat × Bool) := (framePlan s).map fun e => (e.zone, e.level, e.load, e.held)

/-- The plan entry of Z2, of a counter zone, or of Z15, for each kind of content. -/
theorem test_plan_entries :
    let held := { showing 2 (.clip 3 90) with cmp := { base.cmp with
      holds := upd base.cmp.holds 2 fun _ => some ⟨6, 10, 1, 1, 100, []⟩ } }
    planRows (showing 2 .none) = [] ∧
    ([(2, Content.asset 9 200 none false, 200, 9, false), (2, .asset 9 200 none true, 255, 9, false),
      (2, .message 9 4 0 100, 100, 9, false), (2, .alert 9 4 0 100, 100, 9, true), (15, .evac 9, 255, 9, true),
      (2, .clip 3 90, 90, 0, false), (3, .clock, 255, 128, true), (4, .score, 255, 128, true),
      (2, .blank true, 0, 0, false), (0, .gap, 0, 0, false)].all fun e => planRows (showing e.1 e.2.1) == [(e.1, e.2.2)]) =
        true ∧
    planRows held = [(2, 90, 100, false)] := by decide +kernel

/-- Two zones on one tile: both have an entry, by rising number, and the owner alone has the tile visible; a counter zone
not shown has none. -/
theorem test_plan_owners :
    let s := (showing 15 (.evac 9)).modZone 0 fun r => { r with current := .gap }
    ((framePlan s).map fun e => (e.zone, e.area, e.visible)) = [(0, 1, #v[0, 0, 0, 0]), (15, 1, #v[1, 0, 0, 0])] ∧
    planRows ((showing 3 .clock).modZone 3 fun r => { r with shown := false }) = [] := by decide +kernel

/-- Applied levels: a HELD entry keeps its level; a FREE one is scaled by the least scale of its feeds not TRIPPED. -/
theorem test_applied_levels :
    let s := toPlan 1 128
    let t := after .planAllocation s
    s.inRun = true ∧ s.cmp.comp.phase = .ready ∧ s.cmp.comp.queries = [] ∧ s.cmp.taken = [] ∧
    t.cmp.comp.plan = (allocate s.cmp.comp.num (framePlan s) s).2 ∧
    (t.cmp.comp.plan.map fun e => (e.zone, e.level, e.held, e.applied, e.visible[(0 : Fin 4)])) =
      [(0, 200, false, 0, 1), (3, 255, true, 255, 1)] ∧
    (t.fmn.lva.feeds[(0 : Fin 4)]).scale = 0 ∧
    ((after .planAllocation (s.modFeed 0 fun f => { f with tripped := true })).cmp.comp.plan.map (·.applied)) =
      [200, 255] := by decide +kernel

/-- A picture of two frames, each two tiles in a row, with an interval of 3: frame 0 of 1s and 2s, frame 1 of 3s and 4s. -/
def strip : AssetBody :=
  .ready ⟨2, 1, 2, 3⟩ ([1, 2, 3, 4].flatMap fun n => List.replicate 3072 (BitVec.ofNat 8 n)) 2

/-- Its tiles on Z2, started in composition 0 and 2, in composition 5; outside it; and an asset that is not READY. -/
theorem test_asset_tiles :
    let s := composing .ready [] (withAsset strip 0)
    let at' := fun (c : Content) (n : Seq) dx dy =>
      (sourceTile (s.modZone 2 fun r => { r with current := c, start := n }) 2 dx dy).head?
    let all := fun (n : Nat) => some (BitVec.ofNat 8 n)
    at' (.asset 9 200 none false) 0 0 0 = all 3 ∧ at' (.message 9 4 0 9) 0 1 0 = all 4 ∧
    at' (.alert 9 4 0 9) 3 0 0 = all 1 ∧ at' (.evac 9) 3 1 0 = all 2 ∧ at' (.evac 9) 3 2 0 = all 0 ∧
    at' (.evac 9) 3 0 1 = all 0 ∧ at' (.evac 8) 3 0 0 = all 0 ∧ at' .gap 3 0 0 = all 0 ∧ at' (.blank true) 3 0 0 = all 0 ∧
    at' .none 3 0 0 = all 0 := by decide +kernel

/-- A clip hold of two tiles in a row on Z0, and none. -/
theorem test_clip_tiles :
    let data := [7, 8].flatMap fun n => List.replicate 3072 (BitVec.ofNat 8 n)
    let s := composing .ready [] (playing cue base)
    let held := { s with cmp := { s.cmp with holds := upd s.cmp.holds 0 fun _ => some ⟨6, 10, 2, 1, 7, data⟩ } }
    let all := fun (n : Nat) => some (BitVec.ofNat 8 n)
    (sourceTile held 0 1 0).head? = all 8 ∧ (sourceTile held 0 2 0).head? = all 0 ∧ (sourceTile held 0 0 1).head? = all 0 ∧
    (sourceTile s 0 0 0).head? = all 0 := by decide +kernel

/-- A clock of two glyphs on a zone three tiles wide, glyph frame n all of n: the two end at the right edge. -/
theorem test_string_tiles :
    let glyphs : AssetBody :=
      .ready ⟨1, 1, 13, 1⟩ ((List.range 13).flatMap fun n => List.replicate 3072 (BitVec.ofNat 8 n)) 6
    let s := composing .ready [] (base.modZone 3 fun r => { r with current := .clock })
    let t := (s.modComp fun c => { c with strings := [(3, [.digit 4, .stop])] })
    let wide := { t with
      ast := { directory := [(1, { body := glyphs, refs := 0 })], freeBlocks := 4095 }
      cfl := { t.cfl with image := { image with zones := upd image.zones 3 fun g => { g with width := 3 } } } }
    let all := fun (n : Nat) => some (BitVec.ofNat 8 n)
    (sourceTile wide 3 0 0).head? = all 0 ∧ (sourceTile wide 3 1 0).head? = all 4 ∧ (sourceTile wide 3 2 0).head? = all 11 ∧
    (sourceTile wide 3 2 1).head? = all 0 ∧ (sourceTile { wide with ast := base.ast } 3 2 0).head? = all 0 := by
  decide +kernel

/-! ## Cues: queries, ends, suspension -/

/-- A ready cue of contract 1 enters PLAYING beside a rival, and beside none: notices and contract references; then with
its first frame in no slot, at freeze limit 2 and 1. -/
theorem test_preroll_enters :
    let pre : Cue := { cue with state := .preroll, firstListed := none, attribution := some 1 }
    let s := fun k => told ((rivalLanes pre k).modContract 1 fun c => { c with refs := 3 })
    let late := fun k => { s k with cqs := { (s k).cqs with slots := [(7, { slot with frame := 11 })] } }
    let strict := { late 6 with cfl := { (late 6).cfl with image := { (late 6).cfl.image with linkTable :=
      { (late 6).cfl.image.linkTable with freezeLimit := 1 } } } }
    let t := fun u => after (.clipFrameQuery 0) u
    laneConflict (s 5) 0 1 = true ∧ laneConflict (s 6) 0 1 = false ∧ (s 5).cmp.comp.passes = [] ∧
    (s 5).cmp.comp.queries = [0] ∧ (s 5).heldCount 3 = 1 ∧
    notices (t (s 5)) = [.cueState 3 0 .playing none 0 1 none true 5] ∧
    ((t (s 5)).exu.contracts[(1 : Fin 64)]).refs = 2 ∧ ((t (s 5)).exu.contracts[(2 : Fin 64)]) = (s 5).exu.contracts[(2 : Fin 64)] ∧
    notices (t (s 6)) = [.cueState 3 0 .playing none 0 1 (some 1) false 5] ∧
    (late 6).slotWith 3 10 = none ∧ (late 6).heldCount 3 = 1 ∧
    (t (late 6)).cue 3 = some { pre with state := .frozen, freeze := 1, firstListed := some 5, lastListed := some 5,
                                         listed := 1 } ∧
    notices (t (late 6)) = [.cueState 3 0 .playing none 0 1 (some 1) false 5,
      .cueState 3 0 .frozen none 0 1 (some 1) false 5] ∧
    (t (late 6)).cmp.holds = (late 6).cmp.holds ∧ ((t (late 5)).exu.contracts[(1 : Fin 64)]).refs = 2 ∧
    (t strict).cue 3 = none ∧ (t strict).cmp.holds = strict.cmp.holds := by decide +kernel

/-- With queries left to make, the references of a cue that keeps its attribution stand; and the notice of a freeze. -/
theorem test_queries_left :
    let pre : Cue := { cue with state := .preroll, firstListed := none, attribution := some 1 }
    let s := fun k => let t := told (rivalLanes pre k); t.modComp fun c => { c with queries := [0, 1] }
    let empty := told (composing .advancing [0] (playing { cue with attribution := some 1 } base))
    let frozen := { empty with cqs := { empty.cqs with slots := [] } }
    (after (.clipFrameQuery 0) (s 6)).exu = (s 6).exu ∧
    ((after (.clipFrameQuery 0) (s 5)).exu.contracts[(1 : Fin 64)]).refs =
      ((s 5).exu.contracts[(1 : Fin 64)]).refs - 1 ∧
    notices (after (.clipFrameQuery 0) frozen) = [.cueState 3 0 .frozen none 0 0 (some 1) false 5] := by decide +kernel

/-- Cue 3 of contract 1 active on Z0, listed; cue 5 QUEUED for Z0 behind it. -/
def ending (q : Cue) (more : List Cue) : State :=
  let s := playing q base
  told (withContract { opened with refs := 2 } { s with cqs := { s.cqs with queue := q :: more } })

/-- The end of the cue DONE, by STOP, by FLUSH and by its link's end; with and without a next cue; and a QUEUED one. -/
theorem test_cue_ends :
    let q : Cue := { cue with attribution := some 1, firstListed := some 1, lastListed := some 2, listed := 2 }
    let next : Cue := { cue with id := 5, state := .queued, level := 90 }
    let two := ending q [next]
    let one := ending q []
    let done := endCue q none two
    two.cue q.id = some q ∧ two.isMain q.zone = true ∧ slotsOk two.cqs.slots = true ∧ two.owner = some 0 ∧
    two.cue next.id = some next ∧ (two.zones[(0 : Fin 16)]).stack.top = 1 ∧ (two.zones[(0 : Fin 16)]).gapping = false ∧
    done.cue 3 = none ∧ done.cue 5 = some { next with state := .preroll } ∧ done.cqs.lanes[(0 : Fin 16)] = some 5 ∧
    ((done.zones[(0 : Fin 16)]).stack.replay) = some (0, .clip 5 90) ∧
    (done.zones[(0 : Fin 16)]).pending = some (.clip 5 90) ∧ (done.exu.contracts[(1 : Fin 64)]).refs = 2 ∧
    (done.exu.records.map fun r => (r.contract, r.holdsRef, r.mark.map (·.frames))) = [(1, true, some 2)] ∧
    notices done = [.cueState 3 0 .done none 0 0 (some 1) false 0, .cueState 5 0 .preroll none 0 0 none false 0] ∧
    ([some AbortCause.flush, some .linkEnd].all fun c => ((endCue q c two).cqs.lanes[(0 : Fin 16)]).isNone) = true ∧
    (endCue q (some .stop) one).cqs.lanes[(0 : Fin 16)] = none ∧
    (endCue q (some .stop) one).zones[(0 : Fin 16)].stack.replay = none ∧
    (endCue q (some .stop) one).zones[(0 : Fin 16)].pending = some (one.zones[(0 : Fin 16)]).stack.rotation ∧
    notices (endCue q (some .stop) one) = [.cueState 3 0 .aborted (some .stop) 0 0 (some 1) false 0,
      .claimChange 0 .release 1 (.link 0) 0 .rotation 0] ∧
    notices (endCue q (some .linkEnd) one) = [.cueState 3 0 .aborted (some .linkEnd) 0 0 (some 1) false 0,
      .claimChange 0 .linkEnd 1 (.link 0) 0 .rotation 0] := by decide +kernel

/-- STOP_CUE of the active cue and of a QUEUED one with an attribution; FLUSH and the owner link's end. -/
theorem test_stop_by_place :
    let next : Cue := { cue with id := 5, state := .queued, attribution := some 1 }
    let s := ending cue [next]
    let stopped := served .stopCue 50 [5] s
    s.cue (byteAt (bytes [3]) 0) = some cue ∧ s.cqs.lanes[(0 : Fin 16)] = some cue.id ∧
    (served .stopCue 50 [3] s).cqs = (endCue cue (some .stop) s).cqs ∧
    s.cue (byteAt (bytes [5]) 0) = some next ∧ stopped.cue 5 = none ∧ stopped.cqs.lanes = s.cqs.lanes ∧
    stopped.zones = s.zones ∧ (stopped.exu.contracts[(1 : Fin 64)]).refs = 1 ∧ stopped.exu.records = [] ∧
    notices stopped = [.cueState 5 0 .aborted (some .stop) 0 0 (some 1) false 0] ∧
    (served .flush 51 [] s).cqs = (s.cqs.queue.foldl (abortCue .flush) s).cqs ∧
    (notices (served .flush 51 [] s)).length = 3 ∧ (ownerLinkEnd s).cqs.queue = [] ∧
    abortCue .flush s cue = endCue cue (some .flush) s := by decide +kernel

/-- The lane's cue PLAYING, FROZEN, PREROLL and SUSPENDED: the top lost and regained, by TAKEOVER and at the adoption
point. -/
theorem test_suspension :
    let s := fun st => ending { cue with state := st, freeze := 1 } []
    let idle := told base
    let back := fun st => composing .begun [] ((s st).modZone 0 fun r => { r with pending := some (.clip 3 200) })
    suspendCue 0 idle = idle ∧ resumeCue 0 idle = idle ∧
    ([CueState.playing, .frozen].all fun st =>
      (suspendCue 0 (s st)).cue 3 == some { cue with state := .suspended, freeze := 0 } &&
      notices (suspendCue 0 (s st)) == [.cueState 3 0 .suspended none 0 1 none false 0] &&
      (served .takeover 43 [0] (s st)).cue 3 == some { cue with state := .suspended, freeze := 0 }) = true ∧
    suspendCue 0 (s .preroll) = s .preroll ∧ suspendCue 0 (s .suspended) = s .suspended ∧
    (resumeCue 0 (s .suspended)).cue 3 = some { cue with freeze := 1 } ∧
    notices (resumeCue 0 (s .suspended)) = [.cueState 3 0 .playing none 0 1 none false 0] ∧
    resumeCue 0 (s .frozen) = s .frozen ∧ reply .takeover 43 [0] (s .playing) = some (.ok, .top true) ∧
    (back .suspended).isMain 0 = true ∧ adopts (back .suspended) 0 = true ∧
    ((back .suspended).zones[(0 : Fin 16)]).stack.top = 1 ∧
    (after .adoptionPoint (back .suspended)).cue 3 = some { cue with freeze := 1 } ∧
    (after .adoptionPoint (back .preroll)).cue 3 = some { cue with state := .preroll, freeze := 1 } := by decide +kernel

/-! ## Feeds -/

/-- Last values at the thresholds 100, 200, 300 of both channels and one past them; a channel disabled, and unread. -/
theorem test_thresholds :
    let s := fun (i u : Option Nat) (ei eu : Bool) => ((sensing feed).modChannel 0 fun c =>
      { c with enabled := ei, last := i }).modChannel 4 fun c => { c with enabled := eu, last := u }
    let cls := fun i u => scanClassOf (s (some i) (some u) true true) 0
    let over' := fun i => ((s (some i) none true true).fmn.channels[currentOf 0]).overTrip
    let under := fun u => ((s none (some u) true true).fmn.channels[voltageOf 0]).underTrip
    currentOf 0 = 0 ∧ voltageOf 0 = 4 ∧
    ((s none none true true).fmn.channels[(0 : Fin 8)]).setting = .current ⟨1024, 100, 200, 300⟩ ⟨1024, 100, 200, 300⟩ ∧
    ((s none none true true).fmn.channels[(4 : Fin 8)]).setting = .voltage 1024 100 200 300 ∧
    over' 300 = false ∧ over' 301 = true ∧ under 100 = false ∧ under 99 = true ∧
    cls 200 301 = .neutral ∧ cls 201 301 = .stressing ∧ cls 99 200 = .neutral ∧ cls 99 199 = .stressing ∧
    cls 99 301 = .relieving ∧ cls 100 301 = .neutral ∧ cls 99 300 = .neutral ∧
    scanClassOf (s (some 201) (some 301) false true) 0 = .relieving ∧
    scanClassOf (s (some 99) (some 199) true false) 0 = .relieving ∧ scanClassOf (s none none false false) 0 = .relieving ∧
    scanClassOf (s none (some 301) true true) 0 = .neutral ∧
    ((s (some 301) none false true).fmn.channels[(0 : Fin 8)]).overTrip = false := by decide +kernel

/-- Two trips, a step each way, a step that changes nothing at its ends, and a release. -/
theorem test_feed_notices :
    let s := fun f i u => told (scanned f i u)
    let seen := fun f i u => notices (after .monitorScanComplete (s f i u))
    let freed := told ((((sensing { feed with tripped := true, derate := 100 }).modChannel 0
      fun c => { c with last := some 300 }).modChannel 4 fun c => { c with last := none, enabled := false }))
    (s feed 1 1).fmn.scan = some { todo := [], values := [(0, 1), (4, 1)] } ∧
    seen feed 301 300 = [.feedState 0 .tripped 100 39 .tripCurrent (some 301) (some 300) 0] ∧
    seen { feed with tripRun := 1 } 150 99 = [.feedState 0 .tripped 100 39 .tripVoltage (some 150) (some 99) 0] ∧
    seen { feed with stressRun := 1 } 201 300 = [.feedState 0 .derated 246 96 .stress (some 201) (some 300) 0] ∧
    seen { feed with stressRun := 1, derate := 100 } 201 300 = [] ∧
    seen { feed with derate := 250, reliefRun := 1 } 99 301 = [.feedState 0 .normal 256 100 .relief (some 99) (some 301) 0] ∧
    seen { feed with reliefRun := 1 } 99 301 = [] ∧ seen feed 150 250 = [] ∧
    seen { feed with tripped := true } 301 99 = [] ∧
    after .monitorScanComplete (s feed 301 99) = (allFin 4).foldl judgeFeed ((((s feed 301 99).modChannel 0
      fun c => { c with last := some 301 }).modChannel 4 fun c => { c with last := some 99 }) |> fun t =>
        { t with fmn := { t.fmn with scan := none } }) ∧
    reply .releaseFeed 100 [0] freed = some (.ok, .feed .derated 100) ∧
    notices (served .releaseFeed 100 [0] freed) = [.feedState 0 .derated 100 39 .release (some 300) none 0] := by
  decide +kernel

/-! ## Ticks -/

/-- GAME expires with horn enable, the LINKED SHOT running and AUX ending in the same tick; the period counter at 1 and at
999; in SAFE. -/
theorem test_expiry :
    let s := fun (score : Nat) =>
      let t := told (withTrigger base)
      let t := withClock 0 { clock .running 1 with horn := true } t
      let t := withClock 1 { clock .running 50 with linked := true } t
      let t := withClock 2 { clock .running 1 with linked := true } t
      { t with csu := { t.csu with period := some 0, score := upd t.csu.score 0 fun _ => score } }
    let t := after (.msTick quiet) (s 1)
    let lone := withClock 1 { clock .running 1 with linked := false } base
    (∀ c : ClockId, expires (s 1) c = decide (c ≠ 1)) ∧ (∀ c : ClockId, warns (s 1) c = false) ∧
    (t.csu.clocks[(0 : Fin 3)]).state = .expired ∧ (t.csu.clocks[(1 : Fin 3)]).state = .stopped ∧
    (t.csu.clocks[(1 : Fin 3)]).value = 49 ∧ (t.csu.clocks[(2 : Fin 3)]).state = .expired ∧
    (t.csu.hornTime, t.csu.hornLine) = (2000, true) ∧ t.csu.score[(0 : Fin 16)] = 2 ∧ t.rot.insert.length = 1 ∧
    notices t = [.clockEvent 0 .expiry 0 0, .clockEvent 2 .expiry 0 0] ∧
    (after (.msTick quiet) (s 999)).rot.insert = [] ∧ (after (.msTick quiet) (s 999)).csu.score[(0 : Fin 16)] = 999 ∧
    ((after (.msTick quiet) (inState .safe (s 1))).csu.hornTime) = 0 ∧
    ((after (.msTick quiet) lone).csu.clocks[(1 : Fin 3)]).state = .expired ∧
    (raisePeriod lone).csu = lone.csu ∧ lone.csu.period = none := by decide +kernel

/-- An event's CLOCK_EVENT before the TRIGGER_LOST of the spot it names that is not in the ring. -/
theorem test_expiry_trigger :
    let s := told (withClock 1 { clock .running 1 with horn := true } { base with rot := { base.rot with
      insert := List.replicate 8 (entry 1), ring := [spot 5 1], triggers := upd base.rot.triggers 0 fun _ => some ⟨.expiry 1, 5⟩ } })
    notices (expiryEvent s 1) = [.clockEvent 1 .expiry 1 0, .triggerLost 0 (.expiry 1) 5 0] ∧
    (expiryEvent s 1).csu.hornTime = 2000 ∧ (expiryEvent s 1).csu.clocks = s.csu.clocks := by decide +kernel

/-! ## Messages -/

/-- A message with an id and an expiry. -/
def expiring (id : Nat) (e : Option Nat) : Message := { message with id := id, expiry := e }

/-- Of five queued messages two reach 0 at one tick, beside the one on display; the alarm line as it stands. -/
theorem test_messages_expire_together :
    let s := told { holding [expiring 1 (some 1), expiring 2 (some 2), expiring 3 none, expiring 4 (some 1)] with
      mse := { base.mse with
        queue := [expiring 1 (some 1), expiring 2 (some 2), expiring 3 none, expiring 4 (some 1)]
        display := some ⟨expiring 5 (some 1), 6⟩ } }
    let t := after (.msTick quiet) s
    quiet.alarmLine = s.mse.alarmLevel ∧ t.mse.queue = [expiring 2 (some 1), expiring 3 none] ∧
    t.mse.display = some ⟨{ expiring 5 (some 0) with expired := true }, 6⟩ ∧
    notices t = [.message 1 3 .info .expired 2 0, .message 4 3 .info .expired 2 0] ∧
    (s.asset 9).refs = 4 ∧ (t.asset 9).refs = 2 ∧ directoryOk s.ast.directory = true ∧
    after (.messageExpiry 4 3 quiet) s = t ∧ after (.messageExpiry 5 3 quiet) s = t ∧
    after (.messageExpiry 2 3 quiet) s = s := by decide +kernel

/-- A message on display, another of its class and one of a higher class queued; GAME as given. -/
def displayed (m : Message) (left : Nat) (q : List Message) (game : ClockState) : State :=
  told (withClock 0 (clock game 100) { holding q with mse := { base.mse with queue := q, display := some ⟨m, left⟩ } })

/-- What the display count leaves: the display, the queue's ids, the last notice's kind of change. -/
def counted (s : State) : Option (Nat × Nat) × List (Nat × Nat) × List MessageChange :=
  let t := countDisplay s
  (t.mse.display.map fun d => (d.message.id, d.framesLeft), t.mse.queue.map fun m => (m.id, m.repeats),
    (notices t).filterMap fun n => match n with
      | .message _ _ _ c _ _ => some c
      | _ => none)

/-- The last frame of a showing: with repeats left, with none, with the mark; WHEN_STOPPED with GAME RUNNING; a higher
class waiting; and a message that stays. -/
theorem test_display_count :
    let other := { message with id := 6, repeats := 1 }
    let high := { message with id := 7, cls := .prompt }
    let last := { message with repeats := 1 }
    let marked := { message with expired := true }
    let stops := { message with whenStopped := true }
    ([(displayed message 1 [high, other] .stopped, none, [(7, 2), (6, 1), (4, 1)], [MessageChange.queuedRepeat]),
      (displayed last 1 [other] .stopped, none, [(6, 1)], [.doneComplete]),
      (displayed marked 1 [other] .stopped, none, [(6, 1)], [.expired]),
      (displayed { last with expired := true } 1 [other] .stopped, none, [(6, 1)], [.doneComplete]),
      (displayed stops 2 [high, other] .running, none, [(7, 2), (4, 2), (6, 1)], [.queuedGameRunning]),
      (displayed { stops with expired := true } 2 [other] .running, none, [(6, 1)], [.expired]),
      (displayed stops 2 [other] .stopped, some (4, 1), [(6, 1)], []),
      (displayed message 2 [high, other] .stopped, none, [(7, 2), (4, 2), (6, 1)], [.queuedPreempted]),
      (displayed message 2 [{ high with whenStopped := true }] .running, some (4, 1), [(7, 2)], [])].all fun e =>
        counted e.1 == e.2) = true ∧
    ((countDisplay (displayed last 1 [other] .stopped)).asset 9).refs = 0 ∧
    countDisplay base = base := by decide +kernel

/-- The take-on: the first eligible message, none with the mark, none without it, and a display in use. -/
theorem test_take_on :
    let s := fun q => told (withClock 0 (clock .running 100) (holding q))
    let stops := { message with id := 6, whenStopped := true }
    let t := takeOn (s [stops, message])
    let marked := { s [stops] with mse := { (s [stops]).mse with markMessage := true } }
    firstOf (s [stops, message]) = some message ∧ firstOf (s [stops]) = none ∧
    t.2 = true ∧ t.1.mse = { (s []).mse with queue := [stops], display := some ⟨message, 6⟩, markMessage := true } ∧
    notices t.1 = [.message 4 3 .info .onAir 2 0] ∧
    (t.1.zones[(5 : Fin 16)]).pending = some (.message 9 4 3 255) ∧ t.1.zones[(3 : Fin 16)] = base.zones[(3 : Fin 16)] ∧
    (s [stops]).mse.markMessage = false ∧ takeOn (s [stops]) = (s [stops], false) ∧
    (takeOn marked).2 = false ∧ ((takeOn marked).1.zones[(5 : Fin 16)]).pending = some (.blank true) ∧
    (takeOn marked).1.mse.markMessage = false ∧ notices (takeOn marked).1 = [] ∧
    (let d := displayed message 3 [] .stopped; takeOn d = (d, false)) := by decide +kernel

/-- Level 3 of the alert zone: claimed by an ALERT just taken on, left, released, and not held; no alert zone. -/
theorem test_alert :
    let alert := { message with cls := .alert }
    let s := displayed alert 3 [] .stopped
    let holds := fun (t : State) => t.modZone 0 fun r => { r with stack := { r.stack with alert := some .gap } }
    let none' := { s with cfl := { s.cfl with image := { s.cfl.image with zones := upd image.zones 0 fun _ => zone .main } } }
    s.alertZone = some 0 ∧ ((alignAlert true s).zones[(0 : Fin 16)]).stack.alert = some (.alert 9 4 3 255) ∧
    alignAlert false (holds s) = holds s ∧ alignAlert false base = base ∧
    ((alignAlert false (holds base)).zones[(0 : Fin 16)]).stack.alert = none ∧
    ((alignAlert true (holds (displayed message 3 [] .stopped))).zones[(0 : Fin 16)]).stack.alert = none ∧
    none'.alertZone = none ∧ alignAlert true none' = none' := by decide +kernel

/-- A planned composition's end with a message waiting, in both orders; and with an emergency standing. -/
theorem test_report_orders :
    let s := { planned with mse := { base.mse with queue := [message] } }
    let stands := { s with mse := { s.mse with emergency := .alarmHeld } }
    s.inRun = true ∧ s.cmp.comp.phase = .planned ∧ s.cmp.comp.queries = [] ∧ s.cmp.taken = [] ∧
    after (.compositionEnd .rotFirst) s = displayStep (rotationStep 5 (buildFrame s)) ∧
    after (.compositionEnd .mseFirst) s = rotationStep 5 (displayStep (buildFrame s)) ∧
    (after (.compositionEnd .mseFirst) s).mse.display = some ⟨message, 6⟩ ∧ displayStep stands = stands := by
  decide +kernel

/-! ## Reports -/

/-- A leader, a follower, a MAIN zone with claims, and a zone in a gap. -/
theorem test_zone_reports :
    let s := (taken 0 1).modZone 0 fun r => { r with current := .clip 3 200, pending := some .gap }
    let t := zoneReport 0 s
    (zoneReport 2 s).leaderOf = some 0 ∧ (zoneReport 2 s).followerOf = none ∧ (zoneReport 6 s).followerOf = some 0 ∧
    (zoneReport 6 s).leaderOf = none ∧ (zoneReport 15 s).layer = 7 ∧ (zoneReport 2 s).stack = [] ∧
    t.level = some 200 ∧ t.pending = some .gap ∧ t.top = some 2 ∧
    t.stack = [some (.rotation, (s.zones[(0 : Fin 16)]).stack.rotation.kind), none, some (.link 1, .clock), none] := by
  decide +kernel

/-- Both kinds of channel, each range in effect, and a derated feed. -/
theorem test_monitor_report :
    let s := (sensing { feed with derate := 128 }).modChannel 0 fun c => { c with
      setting := .current ⟨1, 2, 3, 4⟩ ⟨5, 6, 7, 8⟩, effect := .high }
    let t := monitorReport s
    (s.fmn.channels[(0 : Fin 8)]).setting = .current ⟨1, 2, 3, 4⟩ ⟨5, 6, 7, 8⟩ ∧
    (t.channels[(0 : Fin 8)]).thresholds = (6, 7, 8) ∧ (t.channels[(0 : Fin 8)]).calibration = 5 ∧
    (t.channels[(0 : Fin 8)]).ranges = some (.low, .high) ∧ (t.channels[(4 : Fin 8)]).thresholds = (100, 200, 300) ∧
    (t.channels[(4 : Fin 8)]).ranges = none ∧ t.feedStates[0]? = some .derated ∧ t.effectiveBudgets[0]? = some 50 ∧
    (zoneReport 2 s).cls = .sponsor := by decide +kernel

/-- Messages in each emergency state, rotation from the second spot, an asset in each state. -/
theorem test_other_reports :
    let r := rotationReport 1 (turning waiting [spot 5 1, spot 6 1] [entry 1] [])
    (messageReport { base with mse := { base.mse with emergency := .linkEvac 9 } }).evacuation = some 9 ∧
    (messageReport { base with mse := { base.mse with emergency := .alarmHeld } }).evacuation = some 0 ∧
    (messageReport (displayed message 3 [message] .stopped)).held = 2 ∧
    (messageReport base).holdsAlert = false ∧ r.spots = 2 ∧ r.startIndex = 1 ∧
    r.insert = [entry 1] ∧ r.zones.map (·.1) = [0, 1, 2] ∧
    (assetReport 9 (withAsset (load 0 [1, 2]) 0)).received = some 2 ∧
    (assetReport 9 (withAsset (load 0 [1, 2]) 0)).loading = true ∧ (assetReport 9 (withAsset strip 3)).load = some 2 ∧
    (assetReport 9 (withAsset strip 3)).total = 12288 ∧ (assetReport 9 base).ready = false ∧
    (cueReport (playing cue base)).fullSlots = 1 ∧ (cueReport (playing cue base)).cues = [(cue, 1)] ∧
    (cueReport (playing cue base)).lanes = [(0, some 3), (1, none)] := by decide +kernel

/-! ## Witnesses: entries credited, counts, cuts, evacuations, residents -/

/-- A word before the first block was sent, with no frame scanned, of an unused chain, a first and a second one. -/
theorem test_return_word_rows :
    let s := scanning frame ⟨.ok, 0, 0⟩
    let word := fun (t : State) => t.osu.scanning.bind fun f => f.returns[(0 : Fin 48)]
    after (.returnWord 0 false (4, 2)) s = s ∧ after (.returnWord 0 true (4, 2)) base = base ∧
    after (.returnWord 1 true (4, 2)) s = s ∧ word (after (.returnWord 0 true (4, 2)) s) = some (4, 2) ∧
    after (.returnWord 0 true (5, 2)) (scanning (answered 4 2) ⟨.ok, 0, 0⟩) = scanning (answered 4 2) ⟨.ok, 0, 0⟩ := by
  decide +kernel

/-- Three open records, those of airings 8 and 9 with marks ending at 4 and 5; a log of n entries. -/
def crediting (n : Nat) : State :=
  let m := fun (id last : Seq) => { mark with key := .airing id, last := last }
  let s := told (withContract { opened with refs := 3, makegood := 100 } (holding []))
  { s with exu := { s.exu with
      log := List.replicate n { logEntryOf false false ⟨.airing 1, 1, 0, none, false⟩ mark with id := 1 }
      records := [⟨.airing 8, 1, 7, some (m 8 4), false⟩, ⟨.airing 9, 1, 2, some (m 9 5), false⟩,
        ⟨.cue 3 1, 1, 5, some { m 0 3 with key := .cue 3 1 }, true⟩, ⟨.airing 6, 1, 1, none, false⟩] } }

/-- Record 4 credits airings 8 and 6, and 2 anew; it closes 8 and the cue, with their credit; earned to the target. -/
theorem test_record_delivered :
    let row := fun (id : Seq) (v : Nat) => { zone := 2, key := .airing id, contract := 1, area := 1, visible := v, level := 255 : FrameEntry }
    let rec4 : FrameRecord := { num := 4, dark := false, entries := [row 8 3, row 6 2, row 2 9] }
    let s := crediting 255
    let u := rec4.entries.foldl (creditEntry false) s
    let t := deliver rec4 s
    let delivered := fun v : State => v.exu.records.map fun r => (r.key, r.delivered)
    (s.exu.records.map (·.key)).Nodup ∧ s.exu.log.length ≤ 256 ∧
    (t.exu.contracts[(1 : Fin 64)]).earned = 15 ∧ (t.exu.contracts[(1 : Fin 64)]).state = .met ∧
    { t.exu.contracts[(1 : Fin 64)] with refs := 0 } = { u.exu.contracts[(1 : Fin 64)] with refs := 0 } ∧
    (t.exu.contracts[(1 : Fin 64)]).refs = 1 ∧
    delivered t = [(.airing 9, 2), (.airing 6, 3), (.airing 2, 9)] ∧
    t.exu.log.drop 254 = [logEntryOf false false ⟨.airing 8, 1, 10, none, false⟩ { mark with key := .airing 8, last := 4 },
      logEntryOf false false ⟨.cue 3 1, 1, 5, none, true⟩ { mark with key := .cue 3 1, last := 3 }] ∧
    t.exu.log.length = 256 ∧ (deliver ⟨4, true, rec4.entries⟩ s).exu.contracts[(1 : Fin 64)].earned = 1 := by
  decide +kernel

/-- Entry for an airing, a cue PLAYING and one PREROLL, and content without an attribution; outside the plan too. -/
theorem test_record_entries :
    let s := planned
    let on := fun (c : Content) (a : ClipAnswer) => ((s.modZone 2 fun r => { r with current := c }).modComp fun k =>
      { k with answers := [(2, a)], plan := [{ zone := 2, level := 200, load := 9, held := false,
                                               visible := #v[1, 2, 4, 8], area := 1, applied := 150 }] })
    let e := fun (k : RecordKey) (v l : Nat) => some { zone := 2, key := k, contract := 1, area := 1, visible := v, level := l : FrameEntry }
    frameEntry (on (.clip 3 200) ⟨none, some .frozen, some 1, false⟩) 2 = e (.cue 3 1) 15 150 ∧
    frameEntry (on (.clip 3 200) ⟨none, some .preroll, some 1, false⟩) 2 = none ∧
    frameEntry (on (.clip 3 200) ⟨none, some .playing, none, false⟩) 2 = none ∧
    frameEntry ((on (.clip 3 200) ⟨none, some .playing, none, false⟩).modComp fun k => { k with answers := [] }) 2 = none ∧
    frameEntry (on (.asset 9 200 (some ⟨8, 1⟩) false) ⟨none, none, none, false⟩) 2 = e (.airing 8) 15 150 ∧
    frameEntry (on (.asset 9 200 none true) ⟨none, none, none, false⟩) 2 = none ∧
    frameEntry ((on (.asset 9 200 (some ⟨8, 1⟩) false) ⟨none, none, none, false⟩).modComp fun k => { k with plan := [] }) 2 =
      e (.airing 8) 0 0 := by decide +kernel

/-- The answer of a query: PLAYING, FROZEN, at the limit, SUSPENDED, PREROLL, entering PLAYING with and without a rival. -/
theorem test_queries_answered :
    let own := { cue with attribution := some 1 }
    let asked := fun (q : Cue) (cat : Nat) => rivalLanes q cat
    let a := fun (s : State) => (queryZone s 0).answer 0
    let away := fun (s : State) => { s with cqs := { s.cqs with lanes := upd s.cqs.lanes 0 fun _ => none } }
    let bare := fun (s : State) => { s with cqs := { s.cqs with slots := [] } }
    (asked own 0).answer 0 = none ∧ a (asked own 0) = some ⟨some 7, some .playing, some 1, false⟩ ∧
    a (bare (asked own 0)) = some ⟨none, some .frozen, some 1, false⟩ ∧
    a (asked { own with state := .frozen } 0) = some ⟨none, some .frozen, some 1, false⟩ ∧
    a (asked { own with state := .frozen, freeze := 1 } 0) = some ⟨none, some .aborted, none, false⟩ ∧
    a (asked { own with state := .suspended } 0) = some ⟨none, some .suspended, some 1, false⟩ ∧
    a (bare (asked { own with state := .preroll } 0)) = some ⟨none, some .preroll, some 1, false⟩ ∧
    a (asked { own with state := .preroll } 0) = some ⟨some 7, some .playing, some 1, true⟩ ∧
    a (asked { own with state := .preroll } 5) = some ⟨some 7, some .playing, none, true⟩ ∧
    a (away (asked own 0)) = some ⟨none, some .playing, none, false⟩ := by decide +kernel

/-- The last query, and one with Z1's to come; the pass of a cue that entered PLAYING; the adoption point with and without
a clip zone. -/
theorem test_advance_ends :
    let s := rivalLanes { cue with attribution := some 1, state := .preroll } 0
    let two := s.modComp fun c => { c with queries := [0, 1] }
    let begun := fun (s : State) => s.modComp fun c => { c with phase := .begun, queries := [] }
    (after (.clipFrameQuery 0) s).cmp.comp.phase = .ready ∧ (after (.clipFrameQuery 0) two).cmp.comp.phase = .advancing ∧
    after (.clipFrameQuery 0) two = queryZone two 0 ∧
    (queryZone s 0).cmp.comp.passes = [(1, 5)] ∧ (queryZone (rivalLanes { cue with attribution := some 1 } 0) 0).cmp.comp.passes = [] ∧
    (after .adoptionPoint (begun s)).cmp.comp.queries = [0] ∧ (after .adoptionPoint (begun s)).cmp.comp.phase = .advancing ∧
    (after .adoptionPoint (composing .begun [] base)).cmp.comp.phase = .ready := by decide +kernel

/-- Z2's airing counted in a composition that shows it, not under a gap or its fallback; its first count; an ending one. -/
theorem test_airings_counted :
    let a := airingIn .onAir 2
    let shown := fun (c : Content) (a : Airing) (e : List Airing) =>
      (turning { waiting with airing := some a, ending := e } [] [] []).modZone 2 fun r => { r with current := c }
    let own := Content.asset 9 200 (some ⟨7, 1⟩) false
    (rotationStep 6 (shown own a [])).airing 2 = some { a with frames := 3, last := some 6 } ∧
    (rotationStep 6 (shown .gap a [])).airing 2 = some a ∧
    (rotationStep 6 (shown (.blank true) a [])).airing 2 = some a ∧
    (rotationStep 6 (shown own { a with phase := .pending, frames := 0 } [])).airing 2 =
      some { a with frames := 1, first := some 6, last := some 6 } ∧
    (rotationStep 6 (shown own { a with frames := 3 } [])).airing 2 = none ∧
    (rotationStepZone 6 (shown own { a with id := 9 } [{ a with phase := .ending }], []) 2).2.map (fun m => (m.key, m.frames)) =
      [(.airing 7, 3)] ∧
    rotationStepZone 6 (base, []) 5 = (base, []) := by decide +kernel

/-- A cue's mark that waits and one that closes at once, the record holding a reference before or not. -/
theorem test_cue_marks :
    let m : Mark := { mark with key := .cue 3 1, last := 5, outcome := .attribution, source := .cue }
    let s := fun (c : Option Seq) (held : Bool) =>
      let s := withContract { opened with refs := 2 } base
      { s with exu := { s.exu with creditedThrough := c, records := [⟨.cue 3 1, 1, 6, none, held⟩] } }
    let refs := fun t : State => (t.exu.contracts[(1 : Fin 64)]).refs
    refs (takeMark m (s none false)) = 3 ∧ refs (takeMark m (s none true)) = 2 ∧ refs (takeMark m (s (some 5) false)) = 2 ∧
    refs (takeMark m (s (some 5) true)) = 1 ∧
    (takeMark m (s (some 4) false)).openRecord (.cue 3 1) = some ⟨.cue 3 1, 1, 6, some m, true⟩ ∧
    (takeMark m (s (some 5) false)).exu.log = [logEntryOf false false ⟨.cue 3 1, 1, 6, none, false⟩ m] := by decide +kernel

/-- Frames of kind REPLY and NOTICE on a DOWN, HELLO_WAIT, UP and LAPSED link. -/
theorem test_other_kinds :
    ([2, 3].all fun k =>
      let t := fun m => (after (.frameReceive 0 (frameBytes k ⟨9, 1, []⟩)) (linkIn m (base.modLink 0 fun ls =>
        { ls with keepalive := some 5 }))).links[(0 : Fin 4)]
      [LinkMode.down, .helloWait, .up, .lapsed].map (fun m => ((t m).mode, (t m).keepalive)) ==
        [(.helloWait, some 1000), (.helloWait, some 1000), (.up, some 1000), (.lapsed, some 5)] &&
      (t .up).tx.isEmpty && (t .up).fifo.isEmpty) = true := by decide +kernel

/-- An airing on Z0 cut by a TAKEOVER; with none nothing is cut; and one on Z2 by REMOVE_SPOT, one of another spot not. -/
theorem test_cuts :
    let a := airingIn .onAir 2
    let cut := fun c => { a with phase := .ending, cut := some c }
    let main := { base with rot := { base.rot with zones := upd base.rot.zones 0 fun _ => some { waiting with airing := some a } } }
    let t := served .takeover 43 [0] main
    let side := turning { waiting with airing := some a } [spot 5 1, spot 6 1] [] []
    let u := served .removeSpot 87 [5] side
    let v := served .removeSpot 87 [6] side
    (t.rot.zones[(0 : Fin 16)]).map (fun r => (r.airing, r.ending, r.fallbackShown)) = some (none, [cut .topLost], true) ∧
    (t.zones[(0 : Fin 16)]).stack.rotation = .blank true ∧ (t.zones[(0 : Fin 16)]).pending = some .clock ∧
    (served .takeover 43 [1] base).rot = base.rot ∧
    (u.rot.zones[(2 : Fin 16)]).map (fun r => (r.airing, r.ending, r.fallbackShown)) = some (none, [cut .removed], true) ∧
    (u.zones[(2 : Fin 16)]).pending = some (.blank true) ∧ (u.exu.contracts[(1 : Fin 64)]).refs = 0 ∧
    (withContract { opened with refs := 2 } side).exu.contracts[(1 : Fin 64)].refs = 2 ∧
    v.airing 2 = some a ∧ v.zones[(2 : Fin 16)] = side.zones[(2 : Fin 16)] ∧ (v.asset 9).refs = 3 := by decide +kernel

/-- Leaving NONE with a message on display, marked and not; an ALERT's level 3 on Z0; an airing on Z2. -/
theorem test_leaving_none :
    let a := airingIn .onAir 2
    let on := fun (m : Message) (held : Bool) =>
      let s := displayed m 3 [{ message with id := 9, cls := .prompt }, { message with id := 8 }] .set
      let s := { s with rot := { s.rot with zones := upd s.rot.zones 2 fun _ => some { waiting with airing := some a } } }
      if held then s.modZone 0 fun r => { r with stack := { r.stack with alert := some (.alert 9 4 3 255) } } else s
    let alert := { message with cls := .alert }
    let t := leaveNone (on alert true)
    let x := leaveNone (on { message with expired := true } false)
    (on alert true).alertZone = some 0 ∧
    t.mse.queue.map (·.id) = [4, 9, 8] ∧ t.mse.display = none ∧ (t.zones[(0 : Fin 16)]).stack.alert = none ∧
    notices t = [.message 4 3 .alert .queuedEmergency 2 0, .claimChange 0 .release 3 .messageEngine 0 .rotation 0] ∧
    (t.rot.zones[(2 : Fin 16)]).map (fun r => (r.airing, r.ending.map (·.cut), r.hold, r.fallbackShown)) =
      some (none, [some .emergency], true, true) ∧
    (t.zones[(2 : Fin 16)]).pending = some (.blank true) ∧ ((t.rot.zones[(1 : Fin 16)]).map (·.hold)) = some true ∧
    x.mse.queue.map (·.id) = [9, 8] ∧ notices x = [.message 4 3 .info .expired 2 0] ∧
    (leaveNone (on message false)).mse.queue.map (·.id) = [9, 4, 8] := by decide +kernel

/-- The references of the evacuation asset: from NONE, to another asset, to the same one, and cleared; and ALARM_HELD. -/
theorem test_evacuation_references :
    let s := fun (e : Emergency) => told { base with
      mse := { base.mse with emergency := e }
      ast := { directory := [(9, ready 1), (10, ready 1)], freeBlocks := 4094 } }
    let refs := fun (t : State) => ((t.asset 9).refs, (t.asset 10).refs)
    directoryOk (s .none).ast.directory = true ∧
    refs (served .postEvacuate 64 (post 3 1 1 0 0) (s .none)) = (2, 1) ∧
    refs (served .postEvacuate 64 (post 3 1 1 0 0) (s (.linkEvac 10))) = (2, 0) ∧
    refs (served .postEvacuate 64 (post 3 1 1 0 0) (s (.linkEvac 9))) = (1, 1) ∧
    refs (served .clearEvacuate 66 [] (s (.linkEvac 9))) = (0, 1) ∧
    refs (served .clearEvacuate 66 [] (s .alarmHeld)) = (1, 1) ∧
    notices (served .postEvacuate 64 (post 3 1 1 0 0) (s (.linkEvac 10))) = [.emergency (.linkEvac 9) (some 9) .post 0] := by
  decide +kernel

/-- The stop line accepted with GAME RUNNING: the capture's notice, then a lost trigger's; with GAME stopped nothing. -/
theorem test_capture_told :
    let i : TickInput := { quiet with stopLine := true }
    let s := fun (st : ClockState) (n : Nat) =>
      let s := told (withClock 0 (clock st 100) (withTrigger (holding [])))
      { s with
        rot := { s.rot with triggers := upd s.rot.triggers 1 fun _ => some ⟨.gameStopped, 5⟩, insert := List.replicate n (entry 1) }
        csu := { s.csu with stopFilter := 2, stopRun := 2 } }
    let t := after (.stopLineAccept i) (s .running 8)
    t.csu.capture = some 101 ∧ (t.csu.clocks[(0 : Fin 3)]).value = 99 ∧
    notices t = [.clockEvent 0 (.capture 101) 99 0, .triggerLost 1 .gameStopped 5 0] ∧
    (after (.stopLineAccept i) (s .running 0)).rot.insert = [entry 1] ∧
    notices (after (.stopLineAccept i) (s .stopped 8)) = [] ∧
    ([0, 1, 2].all fun c : Fin 3 => !expires (s .running 8) c && !warns (s .running 8) c) = true := by decide +kernel

/-- A cancelled message on display, and an ALERT with level 3; the loads of a link's end, by rising id. -/
theorem test_cancel_and_loads_told :
    let on := fun (m : Message) => displayed { m with source := 0 } 3 [] .set
    let held := fun (s : State) => s.modZone 0 fun r => { r with stack := { r.stack with alert := some (.alert 9 4 0 255) } }
    let two := told { base with ast := { directory := [(9, { body := load 0 [], refs := 0 }), (12, { body := load 1 [], refs := 0 }),
      (14, { body := load 0 [], refs := 0 })], freeBlocks := 4000 } }
    (on message).alertZone = some 0 ∧
    notices (served .cancelMessage 65 [0, 4] (on message)) = [.message 4 0 .info .doneCancelled 2 0] ∧
    notices (served .cancelMessage 65 [0, 4] (held (on { message with cls := .alert }))) =
      [.message 4 0 .alert .doneCancelled 2 0, .claimChange 0 .release 3 .messageEngine 0 .rotation 0] ∧
    directoryOk two.ast.directory = true ∧
    notices (abortLoads 0 two) = [.assetState 9 false .linkEnd none 4001, .assetState 14 false .linkEnd none 4002] := by
  decide +kernel

/-- A stored clip frame: its size and the mean of its sub-pixels. -/
theorem test_stored_frame :
    let s := stream 120 { base with cqs := { base.cqs with queue := [filling] } }
    ((after (.clipFrameArrival (clip 6 10)) s).slot 0).map (fun sl => (sl.width, sl.height, sl.load, sl.freeHeld)) =
      some (1, 1, 5, false) := by decide +kernel

/-- RESIDENT_LOAD with two residents of one block and b blocks free, asset 1 held before. -/
def residents (b : Nat) (loaded : Bool) : State :=
  let r := fun n => ({ id := n, shape := ⟨1, 1, 1, 1⟩, data := List.replicate 3072 5 } : ResidentCfg)
  let im := { image with residents := [r 4, r 2], alarm := { asset := 4, filter := 20 },
                         zones := upd image.zones 5 fun z => { z with fallback := some 2 } }
  let s := inState .residentLoad base
  { s with
    cfl := { s.cfl with image := im, residentsLoaded := loaded }
    ast := { directory := [(1, ready 3)], freeBlocks := b }
    mse := { s.mse with emergency := .alarmHeld } }

/-- All loaded; the second does not fit; none loaded, so that the fallback is missing; the references counted; the hold. -/
theorem test_residents :
    let t := after .residentLoadComplete (residents 1 false)
    let records := fun z : ZoneId => t.rot.zones[z]
    directoryOk (residents 1 false).ast.directory = true ∧ (residentLoad (residents 1 false)).2 = none ∧
    (residentLoad (residents 0 false)).2 = some 4 ∧ ((residentLoad (residents 0 false)).1.asset 2).body.isReady = true ∧
    ((residentLoad (residents 0 false)).1.asset 4).body = .empty ∧ (residentLoad (residents 0 false)).1.ast.freeBlocks = 0 ∧
    missingResident (residents 0 true) = some 2 ∧ missingResident (residentLoad (residents 1 false)).1 = none ∧
    (after .residentLoadComplete (residents 0 true)).cfl.fault = some ⟨.resident, some 2⟩ ∧
    t.cfl.startup = .run ∧ (t.asset 2).refs = 2 ∧ (t.asset 4).refs = 1 ∧ (t.asset 1) = { body := .empty, refs := 0 } ∧
    t.ast.freeBlocks = 0 ∧ t.mse.alarmFilter = 20 ∧
    records 0 = some ⟨none, none, [], true, true⟩ ∧ records 2 = some ⟨none, none, [], true, true⟩ ∧ records 6 = none ∧
    records 5 = none := by decide +kernel

/-- A warm restart to RUN with the residents loaded before or not: limits kept or taken anew, warnings limited, flags set. -/
theorem test_clocks_after_restart :
    let cfg : ClockCfg := { dir := .up, limit := 500, linked := true, warning := 90, horn := true, reset := 80 }
    let s := fun loaded =>
      let s := residents 1 loaded
      { s with
        cfl := { s.cfl with restarting := true, image := { s.cfl.image with
          clocks := { clocks := Vector.replicate 3 cfg, stopFilter := 3, period := some 7 }, residents := s.cfl.image.residents } }
        csu := { s.csu with clocks := Vector.replicate 3 { clock .set 60 with limit := 70 } }
        ast := if loaded then { directory := [(2, ready 0), (4, ready 0)], freeBlocks := 4094 } else s.ast }
    let t := fun loaded => (after .residentLoadComplete (s loaded)).csu
    ((t true).clocks[(1 : Fin 3)]) = { clock .set 60 with limit := 70, warning := 70, horn := true, reset := 70, armed := false } ∧
    ((t false).clocks[(0 : Fin 3)]) = { clock .set 60 with
      dir := .up, limit := 500, linked := true, warning := 90, horn := true, armed := false } ∧
    (t true).period = some 7 ∧ (t true).stopFilter = 3 := by decide +kernel

/-- CSU's settings of an image at a cold start, and the SAFE values. -/
theorem test_csu_settings :
    let cfg : ClockCfg := { dir := .up, limit := 500, linked := true, warning := 90, horn := true, reset := 80 }
    let im := { legal with clocks := { clocks := Vector.replicate 3 { cfg with linked := false }, stopFilter := 3, period := some 7 } }
    let s := spelt State.reset
    let s := { s with cfl := { s.cfl with layout := kinds.map fun k => (k, [], im) } }
    let t := (after .configReadComplete s).csu
    t.clocks[(2 : Fin 3)] = { ClockRec.initial with dir := .up, limit := 500, warning := 90, horn := true, reset := 80 } ∧
    t.period = some 7 ∧ t.stopFilter = 3 ∧
    (after .configReadComplete (inState .configRead base)).csu =
      { base.csu with hornTime := 0, hornLine := false, stopFilter := 0, period := none,
                      clocks := Vector.replicate 3 ClockRec.initial } := by decide +kernel

/-! ## Witnesses: a report come late, releases turned away, bytes of the records -/

/-- The taken report of a cue FROZEN, stopped with its slot held back (stream UP, DOWN), and of a slot gone. -/
theorem test_taken_report_late :
    let late := reported { cue with state := .frozen }
    let stopped := fun up : Bool => { late with cqs := { late.cqs with
      queue := [], lanes := upd late.cqs.lanes 0 fun _ => none, streamUp := up,
      slots := [(7, { slot with readMark := true, freeHeld := true }), (8, slot)] } }
    let t := fun s => after (.clipTakenReport 0) s
    let gone := { late with cqs := { late.cqs with slots := [] } }
    late.taken 0 = some ⟨0, 7, 3⟩ ∧ (t late).slot 7 = some slot ∧ (t late).cmp.taken = [] ∧
    (t late).cqs.queue = late.cqs.queue ∧ (t late).cqs.credits = 119 ∧
    (t (stopped true)).cqs.slots = [(8, slot)] ∧ (t (stopped true)).cqs.credits = 120 ∧
    (t (stopped true)).cqs.lane = late.cqs.lane ++ [.grant] ∧
    (t (stopped false)).cqs.slots = [(8, slot)] ∧ (t (stopped false)).cqs.credits = 119 ∧
    t gone = { gone with cmp := { gone.cmp with taken := [] } } := by decide +kernel

/-- A free held back by the mark of a cue still PLAYING: carried out, and the showing counted. -/
theorem test_taken_report_frees :
    let s := reported cue
    let held := { s with cqs := { s.cqs with slots := [(7, { slot with readMark := true, freeHeld := true })] } }
    slotsOk held.cqs.slots = true ∧ (after (.clipTakenReport 0) held).slot 7 = none ∧
    (after (.clipTakenReport 0) held).cue 3 = some { cue with repeats := 1 } := by decide +kernel

/-- Level 2 of Z0 held by link 1: released by link 0, by link 1 at the top, below an ALERT, and out of range. -/
theorem test_releases :
    let s := taken 0 1
    let under := s.modZone 0 fun r => { r with stack := { r.stack with alert := some .clock } }
    let z := fun t : State => t.zones[(0 : Fin 16)]
    s.isMain 0 = true ∧ release 0 2 (.link 0) false s = (s, .state) ∧ release 0 1 (.link 1) true s = (s, .state) ∧
    claim 0 2 (.link 0) .clock s = (s, .held, false) ∧ release 0 0 (.link 1) false s = (s, .range) ∧
    release 2 2 (.link 1) false s = (s, .range) ∧ claim 0 4 .messageEngine .clock s = (s, .range, false) ∧
    (release 0 2 (.link 1) false s).2 = .ok ∧ (z (release 0 2 (.link 1) false s).1).stack.takeover = none ∧
    (z (release 0 2 (.link 1) false s).1).pending = some (z s).stack.rotation ∧
    (release 0 2 (.link 1) false under).2 = .ok ∧ (z (release 0 2 (.link 1) false under).1).pending = (z s).pending ∧
    (z (release 0 2 (.link 1) false under).1).stack = { (z under).stack with takeover := none } := by decide +kernel

/-- A contract report and a log entry written out byte by byte. -/
theorem test_record_bytes :
    contractReport 63 { category := 31, target := 0x01020304, earned := 0xA0B0C0D0, remainder := 254,
                        holdback := 0x0000FF01, minLevel := 7, minVisible := 100, makegood := 50,
                        exclusion := 0x8001, state := .met, refs := 1023 } =
      [63, 2, 31, 7, 100, 50, 254, 0x80, 0x01, 1, 2, 3, 4, 0xA0, 0xB0, 0xC0, 0xD0, 0, 0, 0xFF, 1, 3, 0xFF] ∧
    LogEntry.bytes { id := 0x0A0B0C0D, contract := 5, zone := 15, source := .cue, first := 0xFFFFFFFE, last := 2,
                     duration := 0x0102, frames := 3, delivered := 0x00010000, nominal := 256, outcome := .attribution,
                     queued := true, restart := true } =
      [0x0A, 0x0B, 0x0C, 0x0D, 5, 15, 3, 2, 3, 0xFF, 0xFF, 0xFF, 0xFE, 0, 0, 0, 2, 1, 2, 0, 0, 0, 3, 0, 1, 0, 0,
       0, 0, 1, 0] := by decide +kernel
end Sys2Proof.Tests
end

section
/-! # Proofs: clock requests (section 6 of the manual) -/

namespace Sys2Proof.Machine

/-! ## Rules of the shared operations -/

/-- A row that serves a request answers what its owner answers to the payload. -/
theorem answers_of_serve {c : Instr} {l : Link} {code : Nat} {mine : List Byte → Bool}
    {f : List Byte → State → Answer} {p : List Byte} {s t : State} {st : Status} {b : ReplyBody}
    (hexec : exec c s = serve l code mine f s) (hmine : mine p = true) (hf : f p s = ⟨t, st, b⟩) :
    Answers c l code p s t st b := by
  rintro r o hr hcode rfl
  rw [hexec, serve_of_request hr hcode hmine, hf]

theorem exec_setClock (l : Link) (s : State) :
    exec (.setClock l) s = serve l 32 (fun _ => true) doSetClock s := rfl

/-- A payload of the right length whose first byte is a clock's number names that clock. -/
theorem namedClock_eq_ok {len : Nat} {p : List Byte} {c : ClockId} (hlen : p.length = len)
    (hc : byteAt p 0 = c.val) : namedClock len p = .ok c := by
  simp [namedClock, hlen, index?_of_eq c hc]

/-- R92: a written value is clamped to the limit, and the warn-armed flag follows the value taken. -/
theorem ClockRec.write_eq (k : ClockRec) (v : Nat) :
    k.write v = { k with value := min v k.limit, armed := armedAt k (min v k.limit) } := rfl

/-- Two rewritings that agree on the clock in place give the same state. -/
theorem modClock_congr (s : State) (c : ClockId) {f g : ClockRec → ClockRec}
    (h : f s.csu.clocks[c] = g s.csu.clocks[c]) : s.modClock c f = s.modClock c g := by
  unfold State.modClock
  rw [upd_congr _ _ f g h]

/-! ## SET_CLOCK -/

theorem doSetClock_of_running {s : State} {p : List Byte} {c : ClockId} (hp : namedClock 5 p = .ok c)
    (hrun : (s.csu.clocks[c]).state = .running) : doSetClock p s = refuse .state s := by
  simp only [doSetClock, hp, if_pos hrun]

theorem doSetClock_of_not_running {s : State} {p : List Byte} {c : ClockId} (hp : namedClock 5 p = .ok c)
    (hrun : (s.csu.clocks[c]).state ≠ .running) :
    doSetClock p s =
      ⟨s.modClock c fun k => { k.write (word p 1) with state := .set }, .ok,
        .clockValue (min (word p 1) (s.csu.clocks[c]).limit)⟩ := by
  simp only [doSetClock, hp, if_neg hrun, modClock_clocks, upd_same, ClockRec.write_eq]

/-- Settles O37: the row answers what `doSetClock` answers, in its two cases. -/
theorem setClockTakesTheClampedValue : Obligations.SetClockTakesTheClampedValue := by
  intro s l p c hlen hc v
  have hp : namedClock 5 p = .ok c := namedClock_eq_ok hlen hc
  constructor
  · intro hrun
    exact answers_of_serve (exec_setClock l s) rfl (doSetClock_of_running hp hrun)
  · intro hrun
    have htaken : (s.modClock c fun k => { k.write (word p 1) with state := .set }) =
        s.modClock c fun k => { k with value := v, state := .set, armed := armedAt k v } :=
      modClock_congr s c rfl
    refine answers_of_serve (exec_setClock l s) rfl ?_
    rw [doSetClock_of_not_running hp hrun, htaken]
    rfl

end Sys2Proof.Machine
end

section
/-! # Proofs: contract requests (section 9 of the manual) -/

namespace Sys2Proof.Machine

/-! ## The contract a request names (R141 to R143) -/

theorem namedContract_of_length_ne {len : Nat} {p : List Byte} (s : State) (hlen : p.length ≠ len) :
    namedContract len p s = .error .form := by
  simp only [namedContract, if_pos hlen]

theorem namedContract_of_id_gt {len : Nat} {p : List Byte} (s : State) (hlen : p.length = len)
    (hid : 63 < byteAt p 0) : namedContract len p s = .error .range := by
  simp only [namedContract, hlen, ne_eq, not_true_eq_false, if_false, index?_of_le (n := 64) hid]

/-- A payload of the right length whose first byte is a contract's number is refused only when that contract is UNUSED. -/
theorem namedContract_of_id {len : Nat} {p : List Byte} {c : ContractId} (s : State) (hlen : p.length = len)
    (hid : byteAt p 0 = c.val) :
    namedContract len p s = if (s.exu.contracts[c]).state = .unused then .error .unknown else .ok c := by
  simp only [namedContract, hlen, ne_eq, not_true_eq_false, if_false, index?_of_eq c hid]

/-- Two rewritings that agree on the contract in place give the same state. -/
theorem modContract_congr (s : State) (c : ContractId) {f g : Contract → Contract}
    (h : f s.exu.contracts[c] = g s.exu.contracts[c]) : s.modContract c f = s.modContract c g := by
  unfold State.modContract
  rw [upd_congr _ _ f g h]

/-- The reply of a request that rewrote a contract holds the terms of the rewritten record. -/
theorem termsOf_modContract (s : State) (c : ContractId) (f : Contract → Contract) :
    termsOf (s.modContract c f) c =
      .contractTerms (f s.exu.contracts[c]).target (f s.exu.contracts[c]).holdback (f s.exu.contracts[c]).state := by
  simp only [termsOf, modContract_contracts, upd_same]

/-- R142: a CLOSED contract stays CLOSED; an OPEN or MET one follows earned against target. -/
theorem Contract.retested_eq {k : Contract} (hused : k.state ≠ .unused) :
    k.retested = { k with state := if k.state = .closed then .closed else openOrMet k.earned k.target } := by
  obtain ⟨category, target, earned, remainder, holdback, minLevel, minVisible, makegood, exclusion, state, refs⟩ := k
  cases state with
  | unused => exact absurd rfl hused
  | opened => rfl
  | met => rfl
  | closed => rfl

/-! ## SET_TARGET and SET_HOLDBACK -/

theorem exec_setTarget (l : Link) (s : State) :
    exec (.setTarget l) s = serve l 81 (fun _ => true) doSetTarget s := rfl

theorem exec_setHoldback (l : Link) (s : State) :
    exec (.setHoldback l) s = serve l 82 (fun _ => true) doSetHoldback s := rfl

/-- Both requests refuse a payload with the status that refuses its contract. -/
theorem setTarget_setHoldback_refuse {s : State} {p : List Byte} {e : Status} (l : Link)
    (hp : namedContract 5 p s = .error e) :
    Refuses (.setTarget l) l 81 p s e ∧ Refuses (.setHoldback l) l 82 p s e := by
  have htarget : doSetTarget p s = refuse e s := by simp only [doSetTarget, hp]
  have hholdback : doSetHoldback p s = refuse e s := by simp only [doSetHoldback, hp]
  exact ⟨answers_of_serve (exec_setTarget l s) rfl htarget, answers_of_serve (exec_setHoldback l s) rfl hholdback⟩

/-- A contract in use takes the new target: the record after the clamp and the test of R142. -/
theorem retested_setTarget {k : Contract} (v : Nat) (hused : k.state ≠ .unused) :
    Contract.retested { k with target := v, holdback := min k.holdback v } =
      { k with target := v, holdback := min k.holdback v,
               state := if k.state = .closed then .closed else if v ≤ k.earned then .met else .opened } :=
  Contract.retested_eq hused

theorem doSetTarget_of_named {s : State} {p : List Byte} {c : ContractId} (hp : namedContract 5 p s = .ok c)
    (hused : (s.exu.contracts[c]).state ≠ .unused) :
    let k := s.exu.contracts[c]
    let v := word p 1
    let st := if k.state = .closed then ContractState.closed else if v ≤ k.earned then .met else .opened
    doSetTarget p s =
      ⟨s.modContract c fun k => { k with target := v, holdback := min k.holdback v, state := st }, .ok,
        .contractTerms v (min k.holdback v) st⟩ := by
  intro k v st
  have htaken : (s.modContract c fun k =>
        Contract.retested { k with target := word p 1, holdback := min k.holdback (word p 1) }) =
      s.modContract c fun k => { k with target := v, holdback := min k.holdback v, state := st } :=
    modContract_congr s c (retested_setTarget v hused)
  simp only [doSetTarget, hp]
  rw [htaken, termsOf_modContract]

theorem doSetHoldback_of_named {s : State} {p : List Byte} {c : ContractId} (hp : namedContract 5 p s = .ok c) :
    doSetHoldback p s =
      let k := s.exu.contracts[c]
      ⟨s.modContract c fun k => { k with holdback := min (word p 1) k.target }, .ok,
        .contractTerms k.target (min (word p 1) k.target) k.state⟩ := by
  simp only [doSetHoldback, hp, termsOf_modContract]

/-- Settles O50: a refused payload is one whose contract is refused; a named contract in use is rewritten once. -/
theorem setTargetAndHoldback : Obligations.SetTargetAndHoldback := by
  intro s l p
  refine ⟨fun hlen => setTarget_setHoldback_refuse l (namedContract_of_length_ne s hlen),
    fun hlen hid => setTarget_setHoldback_refuse l (namedContract_of_id_gt s hlen hid), ?_⟩
  intro c hlen hid k v st
  have hnamed := namedContract_of_id s hlen hid
  constructor
  · intro hunused
    exact setTarget_setHoldback_refuse l (hnamed.trans (if_pos hunused))
  · intro hused
    have hp : namedContract 5 p s = .ok c := hnamed.trans (if_neg hused)
    exact ⟨answers_of_serve (exec_setTarget l s) rfl (doSetTarget_of_named hp hused),
      answers_of_serve (exec_setHoldback l s) rfl (doSetHoldback_of_named hp)⟩

end Sys2Proof.Machine
end

section
/-! # Proofs: level allocation (section 11 of the manual) -/

namespace Sys2Proof.Machine

/-! ## The scale of a feed (R180) -/

/-- A feed with nothing FREE on it, or with the whole draw within its capacity, has full scale. -/
theorem scaleOf_of_fits {b p u : Nat} (h : u = 0 ∨ p + u ≤ b * 65025) : scaleOf b p u = 256 := by
  simp only [scaleOf, if_pos h]

/-- A feed that HELD content alone fills has scale 0. -/
theorem scaleOf_of_held_fills {b p u : Nat} (hover : ¬(u = 0 ∨ p + u ≤ b * 65025)) (hheld : b * 65025 ≤ p) :
    scaleOf b p u = 0 := by
  simp only [scaleOf, if_neg hover, if_pos hheld]

/-- Otherwise the scale is the headroom's share of the FREE draw. -/
theorem scaleOf_of_headroom {b p u : Nat} (hover : ¬(u = 0 ∨ p + u ≤ b * 65025)) (hheld : p < b * 65025) :
    scaleOf b p u = (b * 65025 - p) * 256 / u := by
  simp only [scaleOf, if_neg hover, if_neg (Nat.not_le.mpr hheld)]

/-- A feed that the whole draw does not fit has less than full scale, for its headroom is below the FREE draw. -/
theorem scaleOf_le_of_not_fits {b p u : Nat} (hover : ¬(u = 0 ∨ p + u ≤ b * 65025)) : scaleOf b p u ≤ 255 := by
  rcases Nat.lt_or_ge p (b * 65025) with hheld | hheld
  · have hshare : (b * 65025 - p) * 256 / u < 256 := by
      rw [Nat.div_lt_iff_lt_mul (by omega)]
      omega
    rw [scaleOf_of_headroom hover hheld]
    omega
  · rw [scaleOf_of_held_fills hover hheld]
    exact Nat.zero_le 255

/-- A feed with effective budget 0 has no capacity, and HELD content fills it whatever it draws. -/
theorem scaleOf_zero_budget {p u : Nat} (hfree : 0 < u) : scaleOf 0 p u = 0 :=
  scaleOf_of_held_fills (by omega) (by omega)

/-! ## What an allocation writes (R179) -/

theorem allocateFeed_of_not_tripped {f : Feed} (plan : List PlanEntry) (i : FeedId) (hf : f.tripped = false) :
    allocateFeed f plan i =
      { state := f.state, budget := f.effective, held := drawOf plan true i, free := drawOf plan false i,
        scale := scaleOf f.effective (drawOf plan true i) (drawOf plan false i) } := by
  simp only [allocateFeed, hf, Bool.false_eq_true, if_false]

@[simp] theorem allocatePlan_phase (s : State) : (allocatePlan s).cmp.comp.phase = .planned := rfl

@[simp] theorem allocatePlan_lva_num (s : State) : (allocatePlan s).fmn.lva.num = s.cmp.comp.num := rfl

theorem allocatePlan_lva_feed (s : State) (i : FeedId) :
    (allocatePlan s).fmn.lva.feeds[i] = allocateFeed s.fmn.feeds[i] (framePlan s) i :=
  Vector.getElem_ofFn i.isLt

@[simp] theorem allocatePlan_leaves (s : State) :
    (allocatePlan s).cfl = s.cfl ∧ (allocatePlan s).links = s.links ∧ (allocatePlan s).osu = s.osu ∧
      (allocatePlan s).zones = s.zones ∧ (allocatePlan s).ast = s.ast ∧ (allocatePlan s).csu = s.csu ∧
      (allocatePlan s).cqs = s.cqs ∧ (allocatePlan s).mse = s.mse ∧ (allocatePlan s).rot = s.rot ∧
      (allocatePlan s).exu = s.exu ∧ (allocatePlan s).freeCount = s.freeCount ∧
      (allocatePlan s).pending = s.pending :=
  ⟨rfl, rfl, rfl, rfl, rfl, rfl, rfl, rfl, rfl, rfl, rfl, rfl⟩

/-! ## The plan stage of a composition that is ready (R53) -/

theorem stageAdopt_of_ne_begun {s : State} (h : s.cmp.comp.phase ≠ .begun) : stageAdopt s = s := by
  simp only [stageAdopt, if_neg h]

theorem whenAdvanced_of_ne_advancing {s : State} (h : s.cmp.comp.phase ≠ .advancing) : whenAdvanced s = s := by
  simp only [whenAdvanced, if_neg fun hboth : _ ∧ _ => h hboth.1]

theorem takenAll_of_nil {s : State} (h : s.cmp.taken = []) : takenAll s = s := by
  simp only [takenAll, h, List.foldl_nil]

/-- A composition that is ready, with no query or taken report left, has every step before the plan behind it. -/
theorem stageReady_of_ready {s : State} (hphase : s.cmp.comp.phase = .ready) (hqueries : s.cmp.comp.queries = [])
    (htaken : s.cmp.taken = []) : stageReady s = s := by
  have hbegun : s.cmp.comp.phase ≠ .begun := by simp [hphase]
  have hadvancing : s.cmp.comp.phase ≠ .advancing := by simp [hphase]
  simp only [stageReady, stageAdopt_of_ne_begun hbegun, hqueries, List.foldl_nil,
    whenAdvanced_of_ne_advancing hadvancing, takenAll_of_nil htaken]

theorem stagePlan_of_ready {s : State} (hphase : s.cmp.comp.phase = .ready) (hqueries : s.cmp.comp.queries = [])
    (htaken : s.cmp.taken = []) : stagePlan s = allocatePlan s := by
  simp only [stagePlan, stageReady_of_ready hphase hqueries htaken, if_pos hphase]

theorem planDue_of_ready {s : State} (hrun : s.inRun = true) (hphase : s.cmp.comp.phase = .ready) :
    planDue s = true := by
  simp [planDue, hrun, hphase]

theorem exec_planAllocation (s : State) : exec .planAllocation s = execPlanAllocation s := rfl

theorem exec_planAllocation_of_ready {s : State} (hrun : s.inRun = true) (hphase : s.cmp.comp.phase = .ready)
    (hqueries : s.cmp.comp.queries = []) (htaken : s.cmp.taken = []) :
    exec .planAllocation s = .next (allocatePlan s) := by
  rw [exec_planAllocation, execPlanAllocation, if_pos (planDue_of_ready hrun hphase),
    stagePlan_of_ready hphase hqueries htaken]

/-- Settles O30: the row leaves the allocated plan, whose entry for the feed is `allocateFeed`'s, with R180's scale
in its cases. -/
theorem planAllocationScalesEachFeed : Obligations.PlanAllocationScalesEachFeed := by
  intro s i hrun hphase hqueries htaken hfeed plan draw e
  have hentry : (allocatePlan s).fmn.lva.feeds[i] =
      { state := (s.fmn.feeds[i]).state, budget := e, held := draw true, free := draw false,
        scale := scaleOf e (draw true) (draw false) } :=
    (allocatePlan_lva_feed s i).trans (allocateFeed_of_not_tripped plan i hfeed)
  obtain ⟨-, -, -, hzones, -, hcsu, -⟩ := allocatePlan_leaves s
  refine ⟨allocatePlan s, exec_planAllocation_of_ready hrun hphase hqueries htaken, allocatePlan_phase s,
    allocatePlan_lva_num s, ?_⟩
  rw [hentry]
  refine ⟨rfl, rfl, rfl, scaleOf_of_fits, fun hover => ⟨scaleOf_of_held_fills hover, fun hheld => ?_⟩, ?_, hzones, hcsu⟩
  · exact ⟨scaleOf_of_headroom hover hheld, scaleOf_le_of_not_fits hover⟩
  · intro hbudget hfree
    rw [hbudget]
    exact scaleOf_zero_budget hfree

end Sys2Proof.Machine
end
